-- ==== Sys2Proof/Word.lean ====
section
/-! DEFINITION. The widths of the machine's values and the operand selectors of the encoding tables. -/

namespace Sys2Proof

/-- One byte, the unit of every bus access (00_scope.md R8, R10). -/
abbrev Byte := BitVec 8

/-- A 16-bit value: an address, a register pair, SP, PC or an n16 (R8, R10). -/
abbrev Word := BitVec 16

/-- A 3-bit field of an opcode byte: y, z or a bit index (30_encoding.md R102, R103). -/
inductive Field3 where
  | f0 | f1 | f2 | f3 | f4 | f5 | f6 | f7
deriving DecidableEq, Repr

/-- A 2-bit field of an opcode byte: block, p, cc or group (R102, R103). -/
inductive Field2 where
  | f0 | f1 | f2 | f3
deriving DecidableEq, Repr

/-- The seven 8-bit registers (10_state.md R30); F is a packed view, not a register (R32). -/
inductive Reg8 where
  | a | b | c | d | e | h | l
deriving DecidableEq, Repr

/-- The R8 operand of an instruction: a register, or the memory byte at HL for selector 6
(30_encoding.md R104, R112). -/
inductive Operand8 where
  | reg (r : Reg8)
  | atHl
deriving DecidableEq, Repr

/-- The R16 operand (R105). -/
inductive R16 where
  | bc | de | hl | sp
deriving DecidableEq, Repr

/-- The R16mem operand: [BC], [DE], [HL+], [HL-] (R106). -/
inductive R16mem where
  | bc | de | hlInc | hlDec
deriving DecidableEq, Repr

/-- The R16stk operand: AF stands where R16 has SP (R107). -/
inductive R16stk where
  | bc | de | hl | af
deriving DecidableEq, Repr

/-- The condition operand (R108). -/
inductive Cond where
  | nz | z | nc | c
deriving DecidableEq, Repr

/-- The eight ALU operations, in index order (R109). -/
inductive AluOp where
  | add | adc | sub | sbc | and | xor | or | cp
deriving DecidableEq, Repr

/-- The eight rotate and shift operations of CB group 0, in index order (R110). -/
inductive RotOp where
  | rlc | rrc | rl | rr | sla | sra | swap | srl
deriving DecidableEq, Repr

/-- The four rotates of the accumulator (41_block0.md R217 to R220). -/
inductive RotAOp where
  | rlca | rrca | rla | rra
deriving DecidableEq, Repr

/-- The 11 illegal primary bytes (30_encoding.md R130). -/
inductive IllegalByte where
  | d3 | db | dd | e3 | e4 | eb | ec | ed | f4 | fc | fd
deriving DecidableEq, Repr

end Sys2Proof
end

