-- ==== Sys2Proof/Machine/Bits.lean ====
section
/-! DEFINITION. Bit-field, byte-order and extension helpers (00_scope.md R10, R11). -/

namespace Sys2Proof

/-- `v[15:8]` (R10). -/
def hiByte (v : Word) : Byte := v.extractLsb' 8 8

/-- `v[7:0]` (R10). -/
def loByte (v : Word) : Byte := v.extractLsb' 0 8

/-- `hi:lo`, the word `(hi << 8) | lo` (R11). -/
def wordOf (hi lo : Byte) : Word := hi ++ lo

/-- `sext_16(v8)` (R11). -/
def sext16 (v : Byte) : Word := v.signExtend 16

/-- `zext_16(v8)` (R11). -/
def zext16 (v : Byte) : Word := v.setWidth 16

/-- A 3-bit field as its index (30_encoding.md R102, R103). -/
def field3 (v : BitVec 3) : Field3 :=
  match v.toNat with
  | 0 => .f0
  | 1 => .f1
  | 2 => .f2
  | 3 => .f3
  | 4 => .f4
  | 5 => .f5
  | 6 => .f6
  | _ => .f7

/-- A 2-bit field as its index (R102, R103). -/
def field2 (v : BitVec 2) : Field2 :=
  match v.toNat with
  | 0 => .f0
  | 1 => .f1
  | 2 => .f2
  | _ => .f3

/-- The number a 3-bit field stands for: a bit index, or the y of an RST (R103, R111). -/
def Field3.toNat : Field3 → Nat
  | .f0 => 0
  | .f1 => 1
  | .f2 => 2
  | .f3 => 3
  | .f4 => 4
  | .f5 => 5
  | .f6 => 6
  | .f7 => 7

end Sys2Proof
end

