-- ==== Sys2Proof/Config.lean ====
section
/-! DEFINITION. What the spec leaves to the implementation: the open parameters (00_scope.md R9) as data,
the free values as constants with no body, and the byte an unlisted address reads as. -/

namespace Sys2Proof

/-- `EI_DISPATCH_ORDER` (R9; D5): the source's step order, or step 4 before step 3 (60_exceptions.md R424). -/
inductive EiDispatchOrder where
  | doc
  | late
deriving DecidableEq, Repr

/-- `BOOT_MODE` (R9; D16): which AF the machine boots with. -/
inductive BootMode where
  | plain
  | compat
deriving DecidableEq, Repr

/-- The machine's parameters (R9): fixed for a machine, carried in State as plain data so that a statement
about every state is a statement about every parameter value (log 9). -/
structure Params where
  eiDispatchOrder : EiDispatchOrder
  haltBug : Bool
  bootMode : BootMode
deriving DecidableEq, Repr

/-- The spec's defaults `DOC` and false (R9); `PLAIN` is this model's choice, the spec gives no default
(DESIGN CHOICE, log 8). -/
def Config.defaultParams : Params :=
  { eiDispatchOrder := .doc, haltBug := false, bootMode := .plain }

/-- AF after reset in each boot mode (10_state.md R58). -/
def BootMode.af : BootMode → Word
  | .plain => 0x0000#16
  | .compat => 0x1100#16

/-- FREE VALUE (log 4): bits 7..5 of the n-th read of IF or IE, "any value (draw)" (R50). Nothing constrains it. -/
opaque Config.irqUpperBits : Nat → BitVec 3

/-- FREE VALUE (log 5): the scheduler's answer where the environment script gives none, any u32
(60_exceptions.md R441). Nothing constrains it. -/
opaque Config.schedulerAnswer : Nat → BitVec 32

/-- What an address of the bus reads as before anything is written there: DESIGN CHOICE, log 2 (the spec:
"whatever the bus holds", R58; its test vectors fix 0x00). -/
def Config.unlistedByte : Byte := 0x00#8

end Sys2Proof
end

