-- ==== Sys2Proof/Machine/State.lean ====
section
/-! DEFINITION. The machine's state as plain data, the reasons a step can stop, and the state after reset. -/

namespace Sys2Proof.Machine

/-- The four flag booleans (10_state.md R32). F is only their packed view. -/
structure Flags where
  z : Bool
  n : Bool
  h : Bool
  c : Bool
deriving DecidableEq, Repr

/-- A flag update: a new boolean, or `none` for "keep" (40_alu.md, introduction). -/
structure FlagUpdate where
  z : Option Bool
  n : Option Bool
  h : Option Bool
  c : Option Bool
deriving DecidableEq, Repr

/-- What the environment may do to the core (60_exceptions.md R450): request one of the five sources
(a source outside 0..4 is not admitted, R410) or arm the speed switch (R437). -/
inductive EnvAction where
  | raiseInterrupt (source : Fin 5)
  | armSpeedSwitch
deriving DecidableEq, Repr

/-- One entry of the environment script: what the agents around the core do at one tick, or at one halted
fast-forward (R450; logs 1, 3, 5). -/
structure EnvEvent where
  /-- The byte the bus answers if this tick is a bus read; `none`: the byte the bus holds (20_memory.md R70, R90). -/
  answer : Option (BitVec 8)
  /-- The scheduler's answer if this is a halted fast-forward; `none`: a free value (R441). -/
  schedule : Option (BitVec 32)
  /-- What the environment does right after the tick or the fast-forward (R73, R443). -/
  actions : List EnvAction
deriving DecidableEq, Repr

/-- The two fatal conditions (R400, R54). A step raises one by recording it in `State.fault`; every later step stops with
it (R401). Raised by the 11 illegal bytes and by STOP without a pending switch. Safe: the spec makes both terminal. -/
inductive Fault where
  /-- An illegal primary byte (R402): the opcode's address and the byte. Raised by the `ILLEGAL` rows. Safe. -/
  | illegalOpcode (pc : Word) (opcode : Byte)
  /-- STOP with no pending speed switch (R403): the opcode's address. Raised by `STOP`. Safe. -/
  | unimplementedSystemMode (pc : Word)
deriving DecidableEq, Repr

/-- Why a step can be refused. No meaning of this model refuses. -/
inductive Refusal where
  /-- The instruction has no meaning yet; only an arm of `exec` raises it. Safe. No arm does. -/
  | notModelled (mnemonic : String)
deriving DecidableEq, Repr

/-- The bytes the bus holds: (address, byte) pairs in one canonical form (`Memory.wf`, Machine/Ops.lean). -/
abbrev Memory := List Host.Cell

/-- Everything the spec gives the core (10_state.md), and the model's own inputs. -/
structure State where
  /-- The accumulator, high half of AF (R30). -/
  a : Byte
  /-- High half of BC. -/
  b : Byte
  /-- Low half of BC. -/
  c : Byte
  /-- High half of DE. -/
  d : Byte
  /-- Low half of DE. -/
  e : Byte
  /-- High half of HL. -/
  h : Byte
  /-- Low half of HL. -/
  l : Byte
  /-- Z, N, H, C (R32). -/
  flags : Flags
  /-- SP (R35). -/
  sp : Word
  /-- PC (R37). -/
  pc : Word
  /-- `ime` (R43). -/
  ime : Bool
  /-- `ime_next` (R44). -/
  imeNext : Bool
  /-- `halted` (R45). -/
  halted : Bool
  /-- `irq_enable`, IE (R46). -/
  irqEnable : BitVec 5
  /-- `irq_flags`, IF (R47). -/
  irqFlags : BitVec 5
  /-- `timestamp` (R51), an unbounded natural number (D26). -/
  timestamp : Nat
  /-- `double_speed` (R52). -/
  doubleSpeed : Bool
  /-- `speed_switch_pending` (R53). -/
  speedSwitchPending : Bool
  /-- `fault` (R54). -/
  fault : Option Fault
  /-- `halt_bug_pending` (R59). -/
  haltBugPending : Bool
  /-- `elapsed`, the budget counter of the current run call (20_memory.md R73). -/
  elapsed : Nat
  /-- The bytes the bus holds (R70, R90; log 1). -/
  mem : Memory
  /-- The model's own: the machine's parameters (00_scope.md R9; log 9). -/
  params : Params
  /-- The model's own: the environment script, one event per tick (logs 1, 3, 5). -/
  env : List EnvEvent
  /-- The model's own: how many free values have been drawn (logs 4, 5). -/
  draws : Nat
  /-- The model's own: where the last opcode fetch read, so that a fatal condition can record "the opcode's address" (R54, R400)
  also where the fetch left PC at the opcode (R444; log 18). -/
  opcodePc : Word
deriving DecidableEq, Repr

/-- How an instruction or a step ends. -/
abbrev Result := Host.Outcome State Fault Refusal

/-- The state after reset (10_state.md R58; 70_reset_and_hazards.md R460) of the machine with parameters `p`, for the draw
`IRQ_RESET` = (`ie`, `iflag`) of `irq_enable` and `irq_flags` (D15). -/
def State.resetWith (p : Params) (ie iflag : BitVec 5) : State where
  a := p.bootMode.af.extractLsb' 8 8
  b := 0x00#8
  c := 0x00#8
  d := 0x00#8
  e := 0x00#8
  h := 0x00#8
  l := 0x00#8
  flags := ⟨false, false, false, false⟩
  sp := 0xFFFE#16
  pc := 0x0100#16
  ime := false
  imeNext := false
  halted := false
  irqEnable := ie
  irqFlags := iflag
  timestamp := 0
  doubleSpeed := false
  speedSwitchPending := false
  fault := none
  haltBugPending := false
  elapsed := 0
  mem := []
  params := p
  env := []
  draws := 0
  opcodePc := 0x0000#16

/-- The machine right after reset: the default parameters (log 8) and `irq_enable` = `irq_flags` = 0
(DESIGN CHOICE, log 7: the spec gives a draw). -/
def State.reset : State := State.resetWith Config.defaultParams 0#5 0#5

end Sys2Proof.Machine
end

