-- ==== Sys2Proof/Machine/Flags.lean ====
section
/-! DEFINITION. The ALU helpers of 40_alu.md: pure functions of operands and carry-in that give a result and a flag update. -/

namespace Sys2Proof.Machine

/-! ### Flags as a value -/

/-- Applies a flag update: a flag it does not give keeps its value (40_alu.md; 00_scope.md R12). -/
def FlagUpdate.apply (u : FlagUpdate) (f : Flags) : Flags where
  z := u.z.getD f.z
  n := u.n.getD f.n
  h := u.h.getD f.h
  c := u.c.getD f.c

/-- `packedF`: Z, N, H, C in bits 7..4, bits 3..0 zero (10_state.md R32). -/
def Flags.pack (f : Flags) : Byte :=
  (BitVec.ofBool f.z ++ BitVec.ofBool f.n) ++ (BitVec.ofBool f.h ++ BitVec.ofBool f.c) ++ 0#4

/-- The flags of a byte written to F; the low nibble is discarded (R33). -/
def Flags.unpack (v : Byte) : Flags where
  z := v.getLsbD 7
  n := v.getLsbD 6
  h := v.getLsbD 5
  c := v.getLsbD 4

/-- `cond(cc)` (30_encoding.md R108). -/
def condHolds (cc : Cond) (f : Flags) : Bool :=
  match cc with
  | .nz => !f.z
  | .z => f.z
  | .nc => !f.c
  | .c => f.c

/-! ### 8-bit arithmetic -/

/-- The update of an 8-bit sum or difference `t` of `a` and `b`, widened to 16 bits (R150): Z from the result, H from the
carry or borrow into bit 4, C from bit 8. -/
def arith8Update (n : Bool) (a b : Byte) (t : Word) : FlagUpdate where
  z := some (loByte t == 0#8)
  n := some n
  h := some (((zext16 a ^^^ zext16 b ^^^ t) &&& 0x10#16) != 0#16)
  c := some (t.getLsbD 8)

/-- A carry or borrow as a 16-bit number. -/
def carryIn16 (cin : Bool) : Word := (BitVec.ofBool cin).setWidth 16

/-- `inc8` (R151). -/
def inc8 (v : Byte) : Byte × FlagUpdate :=
  let res := v + 1#8
  (res, { z := some (res == 0#8), n := some false, h := some (v &&& 0x0F#8 == 0x0F#8), c := none })

/-- `dec8` (R152). -/
def dec8 (v : Byte) : Byte × FlagUpdate :=
  let res := v - 1#8
  (res, { z := some (res == 0#8), n := some true, h := some (v &&& 0x0F#8 == 0x00#8), c := none })

/-- `add8` (R153). -/
def add8 (a b : Byte) : Byte × FlagUpdate :=
  let t := zext16 a + zext16 b
  (loByte t, arith8Update false a b t)

/-- `adc8` (R154): the carry-in is added to the widened sum. -/
def adc8 (a b : Byte) (cin : Bool) : Byte × FlagUpdate :=
  let t := zext16 a + zext16 b + carryIn16 cin
  (loByte t, arith8Update false a b t)

/-- `sub8` (R155). -/
def sub8 (a b : Byte) : Byte × FlagUpdate :=
  let t := zext16 a - zext16 b
  (loByte t, arith8Update true a b t)

/-- `sbc8` (R156). -/
def sbc8 (a b : Byte) (cin : Bool) : Byte × FlagUpdate :=
  let t := zext16 a - zext16 b - carryIn16 cin
  (loByte t, arith8Update true a b t)

/-! ### 8-bit logic and compare -/

/-- The update of AND, XOR and OR (R157 to R159). -/
def logic8Update (h : Bool) (res : Byte) : FlagUpdate where
  z := some (res == 0#8)
  n := some false
  h := some h
  c := some false

/-- `and8` (R157). -/
def and8 (a b : Byte) : Byte × FlagUpdate := (a &&& b, logic8Update true (a &&& b))

/-- `xor8` (R158). -/
def xor8 (a b : Byte) : Byte × FlagUpdate := (a ^^^ b, logic8Update false (a ^^^ b))

/-- `or8` (R159). -/
def or8 (a b : Byte) : Byte × FlagUpdate := (a ||| b, logic8Update false (a ||| b))

/-- `cp8` (R160): the flag update of `sub8`, no result. -/
def cp8 (a b : Byte) : FlagUpdate := (sub8 a b).2

/-- The eight ALU operations on A (R109): the result where the operation has one, and the flag update. -/
def alu8 (op : AluOp) (a b : Byte) (cin : Bool) : Option Byte × FlagUpdate :=
  match op with
  | .add => (some (add8 a b).1, (add8 a b).2)
  | .adc => (some (adc8 a b cin).1, (adc8 a b cin).2)
  | .sub => (some (sub8 a b).1, (sub8 a b).2)
  | .sbc => (some (sbc8 a b cin).1, (sbc8 a b cin).2)
  | .and => (some (and8 a b).1, (and8 a b).2)
  | .xor => (some (xor8 a b).1, (xor8 a b).2)
  | .or => (some (or8 a b).1, (or8 a b).2)
  | .cp => (none, cp8 a b)

/-! ### 16-bit arithmetic -/

/-- `inc16` (R161): no flag. -/
def inc16 (v : Word) : Word := v + 1#16

/-- `dec16` (R161): no flag. -/
def dec16 (v : Word) : Word := v - 1#16

/-- `add16` (R162), on a 32-bit sum: Z kept, N false, H from bit 11, C from bit 15. -/
def add16 (hl rhs : Word) : Word × FlagUpdate :=
  let t : BitVec 32 := hl.setWidth 32 + rhs.setWidth 32
  (t.extractLsb' 0 16,
    { z := none
      n := some false
      h := some (((hl.setWidth 32 ^^^ rhs.setWidth 32 ^^^ t) &&& 0x1000#32) != 0#32)
      c := some (t.getLsbD 16) })

/-- `addSPSigned8` (R163; C1): H and C "only from the low byte". -/
def addSpSigned8 (sp : Word) (e8 : Byte) : Word × FlagUpdate :=
  let s := sext16 e8
  let res := sp + s
  let x := sp ^^^ s ^^^ res
  (res, { z := some false, n := some false, h := some (x &&& 0x10#16 != 0#16), c := some (x &&& 0x100#16 != 0#16) })

/-! ### Rotates and shifts -/

/-- The update of the rotates and shifts (R164 to R171). -/
def rot8Update (res : Byte) (c : Bool) : FlagUpdate where
  z := some (res == 0#8)
  n := some false
  h := some false
  c := some c

/-- A carry-in as the byte `bool(cin)`. -/
def carryIn8 (cin : Bool) : Byte := (BitVec.ofBool cin).setWidth 8

/-- `rlc8` (R164). -/
def rlc8 (v : Byte) : Byte × FlagUpdate :=
  let res := v <<< 1 ||| carryIn8 (v.getLsbD 7)
  (res, rot8Update res (v.getLsbD 7))

/-- `rrc8` (R165). -/
def rrc8 (v : Byte) : Byte × FlagUpdate :=
  let res := v >>> 1 ||| carryIn8 (v.getLsbD 0) <<< 7
  (res, rot8Update res (v.getLsbD 0))

/-- `rl8` (R166). -/
def rl8 (v : Byte) (cin : Bool) : Byte × FlagUpdate :=
  let res := v <<< 1 ||| carryIn8 cin
  (res, rot8Update res (v.getLsbD 7))

/-- `rr8` (R167). -/
def rr8 (v : Byte) (cin : Bool) : Byte × FlagUpdate :=
  let res := v >>> 1 ||| carryIn8 cin <<< 7
  (res, rot8Update res (v.getLsbD 0))

/-- `sla8` (R168). -/
def sla8 (v : Byte) : Byte × FlagUpdate :=
  let res := v <<< 1
  (res, rot8Update res (v.getLsbD 7))

/-- `sra8` (R169). -/
def sra8 (v : Byte) : Byte × FlagUpdate :=
  let res := v >>> 1 ||| v &&& 0x80#8
  (res, rot8Update res (v.getLsbD 0))

/-- `swap8` (R170): the carry is always cleared. -/
def swap8 (v : Byte) : Byte × FlagUpdate :=
  let res := v <<< 4 ||| v >>> 4
  (res, rot8Update res false)

/-- `srl8` (R171). -/
def srl8 (v : Byte) : Byte × FlagUpdate :=
  let res := v >>> 1
  (res, rot8Update res (v.getLsbD 0))

/-- The eight operations of CB group 00 (30_encoding.md R110). -/
def rot8 (op : RotOp) (v : Byte) (cin : Bool) : Byte × FlagUpdate :=
  match op with
  | .rlc => rlc8 v
  | .rrc => rrc8 v
  | .rl => rl8 v cin
  | .rr => rr8 v cin
  | .sla => sla8 v
  | .sra => sra8 v
  | .swap => swap8 v
  | .srl => srl8 v

/-- The helper an accumulator rotate runs (R172). -/
def rotAHelper : RotAOp → RotOp
  | .rlca => .rlc
  | .rrca => .rrc
  | .rla => .rl
  | .rra => .rr

/-- The accumulator rotates (R172): the helper's result and carry, with Z always false. -/
def rotA8 (op : RotAOp) (v : Byte) (cin : Bool) : Byte × FlagUpdate :=
  let r := rot8 (rotAHelper op) v cin
  (r.1, { z := some false, n := some false, h := some false, c := r.2.c })

/-! ### Bit operations -/

/-- `bit8(b, v)` (R173). -/
def bit8 (b : Field3) (v : Byte) : FlagUpdate where
  z := some (!v.getLsbD b.toNat)
  n := some false
  h := some true
  c := none

/-- `res8(b, v)` (R174): clears bit b. -/
def res8 (b : Field3) (v : Byte) : Byte := v &&& ~~~(1#8 <<< b.toNat)

/-- `set8(b, v)` (R174): sets bit b. -/
def set8 (b : Field3) (v : Byte) : Byte := v ||| 1#8 <<< b.toNat

/-! ### Decimal adjust and the flag instructions -/

/-- `daa(A, N, H, C)` (R175), first step: the `0x60` correction and the new carry. -/
def daaHigh (a : Byte) (f : Flags) : Byte × Bool :=
  if f.n then (if f.c then a - 0x60#8 else a, f.c)
  else if f.c || decide (a.toNat > 0x99) then (a + 0x60#8, true)
  else (a, f.c)

/-- `daa(A, N, H, C)` (R175), second step: the `0x06` correction. -/
def daaLow (a : Byte) (f : Flags) : Byte :=
  if f.n then (if f.h then a - 0x06#8 else a)
  else if f.h || decide ((a &&& 0x0F#8).toNat > 0x09) then a + 0x06#8
  else a

/-- `daa(A, N, H, C)` (R175). -/
def daa8 (a : Byte) (f : Flags) : Byte × FlagUpdate :=
  let high := daaHigh a f
  let res := daaLow high.1 f
  (res, { z := some (res == 0#8), n := none, h := some false, c := some high.2 })

/-- The update of `cpl` (R176). -/
def cplUpdate : FlagUpdate := { z := none, n := some true, h := some true, c := none }

/-- The update of `scf` (R177). -/
def scfUpdate : FlagUpdate := { z := none, n := some false, h := some false, c := some true }

/-- The update of `ccf` (R178). -/
def ccfUpdate (c : Bool) : FlagUpdate := { z := none, n := some false, h := some false, c := some (!c) }

end Sys2Proof.Machine
end

