-- ==== Sys2Proof/Machine/Ops.lean ====
section
/-! DEFINITION. The named operations every meaning is built from: memory, time and the environment, bus accesses, fetch and
stack primitives (20_memory.md), fatal conditions, interrupt check, dispatch and return (60_exceptions.md). -/

namespace Sys2Proof.Machine

/-! ### The bytes the bus holds -/

/-- The byte held at an address. -/
def Memory.read : Memory → Nat → Byte
  | [], _ => Config.unlistedByte
  | (k, v) :: m, a => if k = a then v else Memory.read m a

/-- Drops every entry of an address. -/
def Memory.erase : Memory → Nat → Memory
  | [], _ => []
  | (k, v) :: m, a => if k = a then Memory.erase m a else (k, v) :: Memory.erase m a

/-- Lists a byte at an address, keeping addresses rising. -/
def Memory.put : Memory → Nat → Byte → Memory
  | [], a, v => [(a, v)]
  | (k, w) :: m, a, v =>
    if a < k then (a, v) :: (k, w) :: m
    else if a = k then (a, v) :: m
    else (k, w) :: Memory.put m a v

/-- Writes a byte; the byte an unlisted address reads as is stored by listing nothing. -/
def Memory.write (m : Memory) (a : Nat) (v : Byte) : Memory :=
  if v = Config.unlistedByte then Memory.erase m a else Memory.put m a v

/-- IF (10_state.md R50). -/
def ifAddr : Word := 0xFF0F#16

/-- IE (R50). -/
def ieAddr : Word := 0xFFFF#16

/-- The addresses that go to the bus: the address space of 65,536 bytes (20_memory.md R74) less IF and IE (R50). -/
def busOwns (k : Nat) : Bool := decide (k < 0x10000) && decide (k ≠ 0xFF0F) && decide (k ≠ 0xFFFF)

/-- The canonical form from a lowest address on. -/
def Memory.wfFrom : Nat → Memory → Bool
  | _, [] => true
  | lo, (k, v) :: m => decide (lo ≤ k) && busOwns k && decide (v ≠ Config.unlistedByte) && Memory.wfFrom (k + 1) m

/-- The canonical form: addresses strictly rising, all the bus's, no byte that an unlisted address reads as. -/
def Memory.wf (m : Memory) : Bool := Memory.wfFrom 0 m

/-- The byte the plain-RAM bus holds at an address: what a reader of the state sees (20_memory.md R90). -/
def State.byteAt (s : State) (a : Word) : Byte := Memory.read s.mem a.toNat

/-! ### Named updates -/

/-- Writes PC. -/
def State.setPc (v : Word) (s : State) : State := { s with pc := v }

/-- Writes SP. -/
def State.setSp (v : Word) (s : State) : State := { s with sp := v }

/-- Writes `ime` and `ime_next`. -/
def State.setIme (ime next : Bool) (s : State) : State := { s with ime := ime, imeNext := next }

/-- Writes `halted`. -/
def State.setHalted (v : Bool) (s : State) : State := { s with halted := v }

/-- Writes `halt_bug_pending`. -/
def State.setHaltBugPending (v : Bool) (s : State) : State := { s with haltBugPending := v }

/-- Writes `irq_flags`. -/
def State.setIrqFlags (v : BitVec 5) (s : State) : State := { s with irqFlags := v }

/-- Writes `irq_enable`. -/
def State.setIrqEnable (v : BitVec 5) (s : State) : State := { s with irqEnable := v }

/-- Replaces the bytes the bus holds. -/
def State.setMem (m : Memory) (s : State) : State := { s with mem := m }

/-- Sets the environment script. -/
def State.setEnv (later : List EnvEvent) (s : State) : State := { s with env := later }

/-- Counts one more free value as drawn. -/
def State.drawn (s : State) : State := { s with draws := s.draws + 1 }

/-- Records where an opcode fetch reads (log 18). -/
def State.setOpcodePc (v : Word) (s : State) : State := { s with opcodePc := v }

/-- Lets time pass: `timestamp` and `elapsed` advance by the same amount (20_memory.md R73). -/
def State.spend (n : Nat) (s : State) : State := { s with timestamp := s.timestamp + n, elapsed := s.elapsed + n }

/-- Toggles the speed mode and disarms the switch (60_exceptions.md R437). -/
def State.switchSpeed (s : State) : State := { s with doubleSpeed := !s.doubleSpeed, speedSwitchPending := false }

/-! ### The environment and time -/

/-- `raiseInterrupt(source)`: ORs one bit into `irq_flags` (60_exceptions.md R410). -/
def State.raiseInterrupt (source : Fin 5) (s : State) : State :=
  { s with irqFlags := s.irqFlags ||| (1#5 <<< source.val) }

/-- An external device arms the speed switch (R437, R450). -/
def State.armSpeedSwitch (s : State) : State := { s with speedSwitchPending := true }

/-- One action of the environment (R450). -/
def State.applyAction (x : EnvAction) (s : State) : State :=
  match x with
  | .raiseInterrupt source => s.raiseInterrupt source
  | .armSpeedSwitch => s.armSpeedSwitch

/-- Actions of the environment, in order. -/
def State.applyActions : List EnvAction → State → State
  | [], s => s
  | x :: xs, s => State.applyActions xs (s.applyAction x)

/-- The environment's turn: the actions of the next event of its script, if there is one (log 3). -/
def State.environment (s : State) : State :=
  match s.env with
  | [] => s
  | ev :: later => State.applyActions ev.actions (s.setEnv later)

/-- The time `n` cycles take: "Double-speed mode right-shifts every tick by 1 when active" (20_memory.md R73). -/
def scaledTicks (doubleSpeed : Bool) (n : Nat) : Nat := if doubleSpeed then n >>> 1 else n

/-- `Tick(n)` (R73): time advances, then the environment may act. -/
def State.tick (n : Nat) (s : State) : State :=
  (s.spend (scaledTicks s.doubleSpeed n)).environment

/-- `internal()` (R84). -/
def State.internal (s : State) : State := s.tick 4

/-! ### Bus accesses -/

/-- What the bus answers to a read at this point: the script's answer, or the byte it holds (R70; log 1). -/
def State.busAnswer (a : Word) (s : State) : Byte :=
  match s.env with
  | [] => s.byteAt a
  | ev :: _ => ev.answer.getD (s.byteAt a)

/-- A read of IF or IE: five register bits under three free bits (10_state.md R50; log 4), as the register is at
the read (log 27). -/
def State.irqRead (reg : BitVec 5) (s : State) : Byte := Config.irqUpperBits s.draws ++ reg

/-- `MemRead(addr, 1)` (20_memory.md R71). -/
def State.memRead (a : Word) (s : State) : Byte × State :=
  if a = ifAddr then (s.irqRead s.irqFlags, s.drawn.tick 4)
  else if a = ieAddr then (s.irqRead s.irqEnable, s.drawn.tick 4)
  else (s.busAnswer a, s.tick 4)

/-- `MemWrite(addr, 1, v)` (R72). -/
def State.memWrite (a : Word) (v : Byte) (s : State) : State :=
  if a = ifAddr then (s.setIrqFlags (v.extractLsb' 0 5)).tick 4
  else if a = ieAddr then (s.setIrqEnable (v.extractLsb' 0 5)).tick 4
  else (s.setMem (Memory.write s.mem a.toNat v)).tick 4

/-! ### Fetch and stack primitives -/

/-- `fetch8()` (R80). -/
def State.fetch8 (s : State) : Byte × State :=
  let r := s.memRead s.pc
  (r.1, r.2.setPc (r.2.pc + 1))

/-- `fetch16()`, low byte first (R81). -/
def State.fetch16 (s : State) : Word × State :=
  let lo := s.fetch8
  let hi := lo.2.fetch8
  (wordOf hi.1 lo.1, hi.2)

/-- `push16(v)`: high byte first, at the higher address (R82). -/
def State.push16 (v : Word) (s : State) : State :=
  let s1 := s.setSp (s.sp - 1)
  let s2 := s1.memWrite s1.sp (hiByte v)
  let s3 := s2.setSp (s2.sp - 1)
  s3.memWrite s3.sp (loByte v)

/-- `pop16()`: low byte first (R83). -/
def State.pop16 (s : State) : Word × State :=
  let lo := s.memRead s.sp
  let s1 := lo.2.setSp (lo.2.sp + 1)
  let hi := s1.memRead s1.sp
  (wordOf hi.1 lo.1, hi.2.setSp (hi.2.sp + 1))

/-! ### Fatal conditions -/

/-- The opcode address a fatal condition records (R54). -/
def Fault.pc : Fault → Word
  | .illegalOpcode pc _ => pc
  | .unimplementedSystemMode pc => pc

/-- `raise K(info)` (60_exceptions.md R400): PC back at the opcode, the condition recorded, nothing else. -/
def State.raiseFatal (k : Fault) (s : State) : State := { s with pc := k.pc, fault := some k }

/-! ### Interrupts -/

/-- `irq_enable & irq_flags & 0x1F` (R421 step 1). -/
def State.activeIrqs (s : State) : BitVec 5 := s.irqEnable &&& s.irqFlags

/-- `lowest_set_bit(m)` of a nonzero mask (00_scope.md R11); none of an empty one. -/
def lowestSetBit (m : BitVec 5) : Option (Fin 5) :=
  if m.getLsbD 0 then some 0
  else if m.getLsbD 1 then some 1
  else if m.getLsbD 2 then some 2
  else if m.getLsbD 3 then some 3
  else if m.getLsbD 4 then some 4
  else none

/-- The vector of a source, `0x0040 + 8 * i` (10_state.md R48; R411). -/
def vectorOf (source : Fin 5) : Word := BitVec.ofNat 16 (0x40 + 8 * source.val)

/-- TAKING AN INTERRUPT: the dispatch of a source (R422). -/
def State.dispatchInterrupt (source : Fin 5) (s : State) : State :=
  let s1 := (s.setIrqFlags (s.irqFlags &&& ~~~(1#5 <<< source.val))).setIme false false
  let s2 := s1.tick 12
  (s2.push16 s2.pc).setPc (vectorOf source)

/-- Steps 4: dispatch of the lowest active source, if `ime` allows one (R421, R423). -/
def State.dispatchIfEnabled (active : BitVec 5) (s : State) : State :=
  match s.ime with
  | false => s
  | true =>
    match lowestSetBit active with
    | none => s
    | some source => s.dispatchInterrupt source

/-- The interrupt check at a boundary (R421), with steps 3 and 4 in the order `EI_DISPATCH_ORDER` gives (R424). -/
def State.interruptCheck (s : State) : State :=
  let active := s.activeIrqs
  let s1 := s.setHalted (s.halted && active == 0#5)
  match s.params.eiDispatchOrder with
  | .doc => State.dispatchIfEnabled active (s1.setIme s1.imeNext s1.imeNext)
  | .late =>
    let s2 := s1.dispatchIfEnabled active
    s2.setIme s2.imeNext s2.imeNext

/-- PC from the stack, with the internal load-PC step (44_block3.md R300, R301). -/
def State.returnFromCall (s : State) : State :=
  let r := s.pop16
  r.2.internal.setPc r.1

/-- THE RETURN FROM AN INTERRUPT (R302, R426): a return that sets `ime` and `ime_next` at once. -/
def State.returnFromInterrupt (s : State) : State :=
  s.returnFromCall.setIme true true

end Sys2Proof.Machine
end

