-- ==== Sys2Proof/Machine/Operands.lean ====
section
/-! DEFINITION. The operand forms: 8-bit registers and [HL], register pairs, AF on the stack, [r16mem] with its HL update. -/

namespace Sys2Proof.Machine

/-! ### Registers and pairs (10_state.md R30, R31) -/

/-- An 8-bit register. -/
def State.reg8 (s : State) (r : Reg8) : Byte :=
  match r with
  | .a => s.a
  | .b => s.b
  | .c => s.c
  | .d => s.d
  | .e => s.e
  | .h => s.h
  | .l => s.l

/-- Writes an 8-bit register: "a write of an 8-bit half changes only those 8 bits of the pair" (R31). -/
def State.setReg8 (s : State) (r : Reg8) (v : Byte) : State :=
  match r with
  | .a => { s with a := v }
  | .b => { s with b := v }
  | .c => { s with c := v }
  | .d => { s with d := v }
  | .e => { s with e := v }
  | .h => { s with h := v }
  | .l => { s with l := v }

/-- BC, high half first (R30). -/
def State.bc (s : State) : Word := wordOf s.b s.c

/-- DE. -/
def State.de (s : State) : Word := wordOf s.d s.e

/-- HL. -/
def State.hl (s : State) : Word := wordOf s.h s.l

/-- AF: A over the packed flags (R32). -/
def State.af (s : State) : Word := wordOf s.a s.flags.pack

/-- Writes BC: both halves (R31). -/
def State.setBc (s : State) (v : Word) : State := { s with b := hiByte v, c := loByte v }

/-- Writes DE. -/
def State.setDe (s : State) (v : Word) : State := { s with d := hiByte v, e := loByte v }

/-- Writes HL. -/
def State.setHl (s : State) (v : Word) : State := { s with h := hiByte v, l := loByte v }

/-- Writes AF: A and the four flags; the low nibble is discarded (R33). -/
def State.setAf (s : State) (v : Word) : State := { s with a := hiByte v, flags := Flags.unpack (loByte v) }

/-- Applies a flag update. -/
def State.applyFlags (s : State) (u : FlagUpdate) : State := { s with flags := u.apply s.flags }

/-- An R16 operand (30_encoding.md R105). -/
def State.r16 (s : State) (p : R16) : Word :=
  match p with
  | .bc => s.bc
  | .de => s.de
  | .hl => s.hl
  | .sp => s.sp

/-- Writes an R16 operand. -/
def State.setR16 (s : State) (p : R16) (v : Word) : State :=
  match p with
  | .bc => s.setBc v
  | .de => s.setDe v
  | .hl => s.setHl v
  | .sp => s.setSp v

/-- An R16stk operand (R107). -/
def State.r16stk (s : State) (p : R16stk) : Word :=
  match p with
  | .bc => s.bc
  | .de => s.de
  | .hl => s.hl
  | .af => s.af

/-- Writes an R16stk operand. -/
def State.setR16stk (s : State) (p : R16stk) (v : Word) : State :=
  match p with
  | .bc => s.setBc v
  | .de => s.setDe v
  | .hl => s.setHl v
  | .af => s.setAf v

/-! ### Memory operands -/

/-- The address of an R16mem operand (R106). -/
def State.r16memAddr (s : State) (m : R16mem) : Word :=
  match m with
  | .bc => s.bc
  | .de => s.de
  | .hlInc => s.hl
  | .hlDec => s.hl

/-- What an R16mem operand does to HL after the access (R106). -/
def State.r16memPost (s : State) (m : R16mem) : State :=
  match m with
  | .bc => s
  | .de => s
  | .hlInc => s.setHl (s.hl + 1)
  | .hlDec => s.setHl (s.hl - 1)

/-- The address of the high page (R111): `0xFF00 + zext_16(n)`. -/
def highPage (n : Byte) : Word := 0xFF00#16 + zext16 n

/-- Reads an R8 operand: a register, or one bus read at HL (R112). -/
def State.readOperand8 (s : State) (o : Operand8) : Byte × State :=
  match o with
  | .reg r => (s.reg8 r, s)
  | .atHl => s.memRead s.hl

/-- Writes an R8 operand: a register, or one bus write at HL (R112). -/
def State.writeOperand8 (s : State) (o : Operand8) (v : Byte) : State :=
  match o with
  | .reg r => s.setReg8 r v
  | .atHl => s.memWrite s.hl v

/-- Read, compute, write back to the same operand, apply the flags: the register forms and the [HL] read-modify-write forms
(R112; 70_reset_and_hazards.md R473). `f` is given the operand and the flags as the instruction finds them. -/
def State.modifyOperand8 (s : State) (o : Operand8) (f : Byte → Flags → Byte × FlagUpdate) : State :=
  let r := s.readOperand8 o
  let out := f r.1 s.flags
  (r.2.writeOperand8 o out.1).applyFlags out.2

/-- The flag update that keeps all four flags. -/
def keepFlags : FlagUpdate := { z := none, n := none, h := none, c := none }

/-- An ALU operation on A and a byte, with the carry flag as carry-in (43_block2_alu.md; 44_block3.md section 5). -/
def State.aluA (s : State) (op : AluOp) (v : Byte) : State :=
  let out := alu8 op s.a v s.flags.c
  (s.setReg8 .a (out.1.getD s.a)).applyFlags out.2

end Sys2Proof.Machine
end

