-- ==== Sys2Proof/Machine/Block0.lean ====
section
/-! DEFINITION. Block 0 (41_block0.md): the meanings of the rows 0x00 to 0x3F. -/

namespace Sys2Proof.Machine

/-! ### What the rows of this block share. In every meaning PC is already past the whole instruction (00_scope.md R14; log 16). -/

/-- `NOP` (R200). -/
def runNop (s : State) : State := s

/-- `LD r16,n16` (R201). -/
def runLdR16 (p : R16) (n16 : Word) (s : State) : State := s.setR16 p n16

/-- `LD [r16mem],A` (R202 to R204): the write, then the update of HL. -/
def runLdToR16memA (m : R16mem) (s : State) : State := (s.memWrite (s.r16memAddr m) s.a).r16memPost m

/-- `LD A,[r16mem]` (R205 to R207): the read, then the update of HL. -/
def runLdAFromR16mem (m : R16mem) (s : State) : State :=
  let r := s.memRead (s.r16memAddr m)
  (r.2.setReg8 .a r.1).r16memPost m

/-- `INC r16` (R208). -/
def runIncR16 (p : R16) (s : State) : State :=
  let s1 := s.internal
  s1.setR16 p (inc16 (s1.r16 p))

/-- `DEC r16` (R209). -/
def runDecR16 (p : R16) (s : State) : State :=
  let s1 := s.internal
  s1.setR16 p (dec16 (s1.r16 p))

/-- `ADD HL,r16` (R210). -/
def runAddHl (p : R16) (s : State) : State :=
  let s1 := s.internal
  let out := add16 s1.hl (s1.r16 p)
  (s1.setHl out.1).applyFlags out.2

/-- `INC r8` and `INC [HL]` (R211, R212). -/
def runInc8 (o : Operand8) (s : State) : State := s.modifyOperand8 o fun v _ => inc8 v

/-- `DEC r8` and `DEC [HL]` (R213, R214). -/
def runDec8 (o : Operand8) (s : State) : State := s.modifyOperand8 o fun v _ => dec8 v

/-- `LD r8,n8` and `LD [HL],n8` (R215, R216). -/
def runLdN8 (o : Operand8) (n8 : Byte) (s : State) : State := s.writeOperand8 o n8

/-- `RLCA`, `RRCA`, `RLA`, `RRA` (R217 to R220). -/
def runRotA (op : RotAOp) (s : State) : State := s.modifyOperand8 (.reg .a) fun v f => rotA8 op v f.c

/-- `DAA` (R221). -/
def runDaa (s : State) : State := s.modifyOperand8 (.reg .a) daa8

/-- `CPL` (R222). -/
def runCpl (s : State) : State := (s.setReg8 .a (~~~s.a)).applyFlags cplUpdate

/-- `SCF` (R223). -/
def runScf (s : State) : State := s.applyFlags scfUpdate

/-- `CCF` (R224). -/
def runCcf (s : State) : State := s.applyFlags (ccfUpdate s.flags.c)

/-- `LD [n16],SP` (R225): low byte at n16, high byte at n16 + 1. -/
def runLdAtN16Sp (n16 : Word) (s : State) : State :=
  let s1 := s.memWrite n16 (loByte s.sp)
  s1.memWrite (n16 + 1) (hiByte s1.sp)

/-- The taken relative jump (R226): the load-PC step, then PC + e8, with PC as the fetch left it (log 26). -/
def runJr (e8 : Byte) (s : State) : State :=
  let s1 := s.internal
  s1.setPc (s1.pc + sext16 e8)

/-- `JR cc,e8` (R227). -/
def runJrCc (cc : Cond) (e8 : Byte) (s : State) : State := if condHolds cc s.flags then runJr e8 s else s

/-- `STOP` (R230): the speed switch when one is pending, else the fatal condition at the opcode's address (60_exceptions.md R403;
log 18). PC is past the opcode byte only; the second byte is skipped, not read (log 17). Right after a buggy HALT PC is still at the
STOP, and by R230's `PC + 1` a switching STOP goes on at the byte after it (DESIGN CHOICE, log 26). A switch armed in the turn after
STOP's own opcode fetch counts for that STOP (DESIGN CHOICE, log 27). -/
def runStop (s : State) : State :=
  if s.speedSwitchPending then s.switchSpeed.setPc (s.pc + 1)
  else s.raiseFatal (.unimplementedSystemMode s.opcodePc)

/-! ### The instructions -/

/-- `NOP`: R200. -/
def execNop (s : State) : Result := .next (runNop s)

/-- `LD BC,n16`: R201. -/
def execLdBcN16 (n16 : Word) (s : State) : Result := .next (runLdR16 .bc n16 s)

/-- `LD [BC],A`: R202. -/
def execLdAtBcA (s : State) : Result := .next (runLdToR16memA .bc s)

/-- `INC BC`: R208. -/
def execIncBc (s : State) : Result := .next (runIncR16 .bc s)

/-- `INC B`: R211. -/
def execIncB (s : State) : Result := .next (runInc8 (.reg .b) s)

/-- `DEC B`: R213. -/
def execDecB (s : State) : Result := .next (runDec8 (.reg .b) s)

/-- `LD B,n8`: R215. -/
def execLdBN8 (n8 : Byte) (s : State) : Result := .next (runLdN8 (.reg .b) n8 s)

/-- `RLCA`: R217. -/
def execRlca (s : State) : Result := .next (runRotA .rlca s)

/-- `LD [n16],SP`: R225. -/
def execLdAtN16Sp (n16 : Word) (s : State) : Result := .next (runLdAtN16Sp n16 s)

/-- `ADD HL,BC`: R210. -/
def execAddHlBc (s : State) : Result := .next (runAddHl .bc s)

/-- `LD A,[BC]`: R205. -/
def execLdAAtBc (s : State) : Result := .next (runLdAFromR16mem .bc s)

/-- `DEC BC`: R209. -/
def execDecBc (s : State) : Result := .next (runDecR16 .bc s)

/-- `INC C`: R211. -/
def execIncC (s : State) : Result := .next (runInc8 (.reg .c) s)

/-- `DEC C`: R213. -/
def execDecC (s : State) : Result := .next (runDec8 (.reg .c) s)

/-- `LD C,n8`: R215. -/
def execLdCN8 (n8 : Byte) (s : State) : Result := .next (runLdN8 (.reg .c) n8 s)

/-- `RRCA`: R218. -/
def execRrca (s : State) : Result := .next (runRotA .rrca s)

/-- `STOP`: R230. -/
def execStop (s : State) : Result := .next (runStop s)

/-- `LD DE,n16`: R201. -/
def execLdDeN16 (n16 : Word) (s : State) : Result := .next (runLdR16 .de n16 s)

/-- `LD [DE],A`: R202. -/
def execLdAtDeA (s : State) : Result := .next (runLdToR16memA .de s)

/-- `INC DE`: R208. -/
def execIncDe (s : State) : Result := .next (runIncR16 .de s)

/-- `INC D`: R211. -/
def execIncD (s : State) : Result := .next (runInc8 (.reg .d) s)

/-- `DEC D`: R213. -/
def execDecD (s : State) : Result := .next (runDec8 (.reg .d) s)

/-- `LD D,n8`: R215. -/
def execLdDN8 (n8 : Byte) (s : State) : Result := .next (runLdN8 (.reg .d) n8 s)

/-- `RLA`: R219. -/
def execRla (s : State) : Result := .next (runRotA .rla s)

/-- `JR e8`: R226. -/
def execJrE8 (e8 : Byte) (s : State) : Result := .next (runJr e8 s)

/-- `ADD HL,DE`: R210. -/
def execAddHlDe (s : State) : Result := .next (runAddHl .de s)

/-- `LD A,[DE]`: R205. -/
def execLdAAtDe (s : State) : Result := .next (runLdAFromR16mem .de s)

/-- `DEC DE`: R209. -/
def execDecDe (s : State) : Result := .next (runDecR16 .de s)

/-- `INC E`: R211. -/
def execIncE (s : State) : Result := .next (runInc8 (.reg .e) s)

/-- `DEC E`: R213. -/
def execDecE (s : State) : Result := .next (runDec8 (.reg .e) s)

/-- `LD E,n8`: R215. -/
def execLdEN8 (n8 : Byte) (s : State) : Result := .next (runLdN8 (.reg .e) n8 s)

/-- `RRA`: R220. -/
def execRra (s : State) : Result := .next (runRotA .rra s)

/-- `JR NZ,e8`: R227. -/
def execJrNzE8 (e8 : Byte) (s : State) : Result := .next (runJrCc .nz e8 s)

/-- `LD HL,n16`: R201. -/
def execLdHlN16 (n16 : Word) (s : State) : Result := .next (runLdR16 .hl n16 s)

/-- `LD [HL+],A`: R203. -/
def execLdAtHlIncA (s : State) : Result := .next (runLdToR16memA .hlInc s)

/-- `INC HL`: R208. -/
def execIncHl (s : State) : Result := .next (runIncR16 .hl s)

/-- `INC H`: R211. -/
def execIncH (s : State) : Result := .next (runInc8 (.reg .h) s)

/-- `DEC H`: R213. -/
def execDecH (s : State) : Result := .next (runDec8 (.reg .h) s)

/-- `LD H,n8`: R215. -/
def execLdHN8 (n8 : Byte) (s : State) : Result := .next (runLdN8 (.reg .h) n8 s)

/-- `DAA`: R221. -/
def execDaa (s : State) : Result := .next (runDaa s)

/-- `JR Z,e8`: R227. -/
def execJrZE8 (e8 : Byte) (s : State) : Result := .next (runJrCc .z e8 s)

/-- `ADD HL,HL`: R210. -/
def execAddHlHl (s : State) : Result := .next (runAddHl .hl s)

/-- `LD A,[HL+]`: R206. -/
def execLdAAtHlInc (s : State) : Result := .next (runLdAFromR16mem .hlInc s)

/-- `DEC HL`: R209. -/
def execDecHl (s : State) : Result := .next (runDecR16 .hl s)

/-- `INC L`: R211. -/
def execIncL (s : State) : Result := .next (runInc8 (.reg .l) s)

/-- `DEC L`: R213. -/
def execDecL (s : State) : Result := .next (runDec8 (.reg .l) s)

/-- `LD L,n8`: R215. -/
def execLdLN8 (n8 : Byte) (s : State) : Result := .next (runLdN8 (.reg .l) n8 s)

/-- `CPL`: R222. -/
def execCpl (s : State) : Result := .next (runCpl s)

/-- `JR NC,e8`: R227. -/
def execJrNcE8 (e8 : Byte) (s : State) : Result := .next (runJrCc .nc e8 s)

/-- `LD SP,n16`: R201. -/
def execLdSpN16 (n16 : Word) (s : State) : Result := .next (runLdR16 .sp n16 s)

/-- `LD [HL-],A`: R204. -/
def execLdAtHlDecA (s : State) : Result := .next (runLdToR16memA .hlDec s)

/-- `INC SP`: R208. -/
def execIncSp (s : State) : Result := .next (runIncR16 .sp s)

/-- `INC [HL]`: R212. -/
def execIncAtHl (s : State) : Result := .next (runInc8 .atHl s)

/-- `DEC [HL]`: R214. -/
def execDecAtHl (s : State) : Result := .next (runDec8 .atHl s)

/-- `LD [HL],n8`: R216. -/
def execLdAtHlN8 (n8 : Byte) (s : State) : Result := .next (runLdN8 .atHl n8 s)

/-- `SCF`: R223. -/
def execScf (s : State) : Result := .next (runScf s)

/-- `JR C,e8`: R227. -/
def execJrCE8 (e8 : Byte) (s : State) : Result := .next (runJrCc .c e8 s)

/-- `ADD HL,SP`: R210. -/
def execAddHlSp (s : State) : Result := .next (runAddHl .sp s)

/-- `LD A,[HL-]`: R207. -/
def execLdAAtHlDec (s : State) : Result := .next (runLdAFromR16mem .hlDec s)

/-- `DEC SP`: R209. -/
def execDecSp (s : State) : Result := .next (runDecR16 .sp s)

/-- `INC A`: R211. -/
def execIncA (s : State) : Result := .next (runInc8 (.reg .a) s)

/-- `DEC A`: R213. -/
def execDecA (s : State) : Result := .next (runDec8 (.reg .a) s)

/-- `LD A,n8`: R215. -/
def execLdAN8 (n8 : Byte) (s : State) : Result := .next (runLdN8 (.reg .a) n8 s)

/-- `CCF`: R224. -/
def execCcf (s : State) : Result := .next (runCcf s)

end Sys2Proof.Machine
end

