-- ==== Sys2Proof/Machine/Block1.lean ====
section
/-! DEFINITION. Block 1 (42_block1.md): the meanings of the rows 0x40 to 0x7F. -/

namespace Sys2Proof.Machine

/-! ### What the rows of this block share -/

/-- `LD r8,r8'`, `LD r8,[HL]` and `LD [HL],r8` (R250 to R252). -/
def runLd (dst src : Operand8) (s : State) : State :=
  let r := s.readOperand8 src
  r.2.writeOperand8 dst r.1

/-- `HALT` (R253): with `HALT_BUG`, `ime` false and an enabled request pending it does not halt. A request
raised in the turn after HALT's own opcode fetch counts as pending (DESIGN CHOICE, log 27). -/
def runHalt (s : State) : State :=
  if s.params.haltBug && !s.ime && s.activeIrqs != 0#5 then s.setHaltBugPending true
  else s.setHalted true

/-! ### The instructions -/

/-- `LD B,B`: R250. -/
def execLdBB (s : State) : Result := .next (runLd (.reg .b) (.reg .b) s)

/-- `LD B,C`: R250. -/
def execLdBC (s : State) : Result := .next (runLd (.reg .b) (.reg .c) s)

/-- `LD B,D`: R250. -/
def execLdBD (s : State) : Result := .next (runLd (.reg .b) (.reg .d) s)

/-- `LD B,E`: R250. -/
def execLdBE (s : State) : Result := .next (runLd (.reg .b) (.reg .e) s)

/-- `LD B,H`: R250. -/
def execLdBH (s : State) : Result := .next (runLd (.reg .b) (.reg .h) s)

/-- `LD B,L`: R250. -/
def execLdBL (s : State) : Result := .next (runLd (.reg .b) (.reg .l) s)

/-- `LD B,[HL]`: R251. -/
def execLdBAtHl (s : State) : Result := .next (runLd (.reg .b) .atHl s)

/-- `LD B,A`: R250. -/
def execLdBA (s : State) : Result := .next (runLd (.reg .b) (.reg .a) s)

/-- `LD C,B`: R250. -/
def execLdCB (s : State) : Result := .next (runLd (.reg .c) (.reg .b) s)

/-- `LD C,C`: R250. -/
def execLdCC (s : State) : Result := .next (runLd (.reg .c) (.reg .c) s)

/-- `LD C,D`: R250. -/
def execLdCD (s : State) : Result := .next (runLd (.reg .c) (.reg .d) s)

/-- `LD C,E`: R250. -/
def execLdCE (s : State) : Result := .next (runLd (.reg .c) (.reg .e) s)

/-- `LD C,H`: R250. -/
def execLdCH (s : State) : Result := .next (runLd (.reg .c) (.reg .h) s)

/-- `LD C,L`: R250. -/
def execLdCL (s : State) : Result := .next (runLd (.reg .c) (.reg .l) s)

/-- `LD C,[HL]`: R251. -/
def execLdCAtHl (s : State) : Result := .next (runLd (.reg .c) .atHl s)

/-- `LD C,A`: R250. -/
def execLdCA (s : State) : Result := .next (runLd (.reg .c) (.reg .a) s)

/-- `LD D,B`: R250. -/
def execLdDB (s : State) : Result := .next (runLd (.reg .d) (.reg .b) s)

/-- `LD D,C`: R250. -/
def execLdDC (s : State) : Result := .next (runLd (.reg .d) (.reg .c) s)

/-- `LD D,D`: R250. -/
def execLdDD (s : State) : Result := .next (runLd (.reg .d) (.reg .d) s)

/-- `LD D,E`: R250. -/
def execLdDE (s : State) : Result := .next (runLd (.reg .d) (.reg .e) s)

/-- `LD D,H`: R250. -/
def execLdDH (s : State) : Result := .next (runLd (.reg .d) (.reg .h) s)

/-- `LD D,L`: R250. -/
def execLdDL (s : State) : Result := .next (runLd (.reg .d) (.reg .l) s)

/-- `LD D,[HL]`: R251. -/
def execLdDAtHl (s : State) : Result := .next (runLd (.reg .d) .atHl s)

/-- `LD D,A`: R250. -/
def execLdDA (s : State) : Result := .next (runLd (.reg .d) (.reg .a) s)

/-- `LD E,B`: R250. -/
def execLdEB (s : State) : Result := .next (runLd (.reg .e) (.reg .b) s)

/-- `LD E,C`: R250. -/
def execLdEC (s : State) : Result := .next (runLd (.reg .e) (.reg .c) s)

/-- `LD E,D`: R250. -/
def execLdED (s : State) : Result := .next (runLd (.reg .e) (.reg .d) s)

/-- `LD E,E`: R250. -/
def execLdEE (s : State) : Result := .next (runLd (.reg .e) (.reg .e) s)

/-- `LD E,H`: R250. -/
def execLdEH (s : State) : Result := .next (runLd (.reg .e) (.reg .h) s)

/-- `LD E,L`: R250. -/
def execLdEL (s : State) : Result := .next (runLd (.reg .e) (.reg .l) s)

/-- `LD E,[HL]`: R251. -/
def execLdEAtHl (s : State) : Result := .next (runLd (.reg .e) .atHl s)

/-- `LD E,A`: R250. -/
def execLdEA (s : State) : Result := .next (runLd (.reg .e) (.reg .a) s)

/-- `LD H,B`: R250. -/
def execLdHB (s : State) : Result := .next (runLd (.reg .h) (.reg .b) s)

/-- `LD H,C`: R250. -/
def execLdHC (s : State) : Result := .next (runLd (.reg .h) (.reg .c) s)

/-- `LD H,D`: R250. -/
def execLdHD (s : State) : Result := .next (runLd (.reg .h) (.reg .d) s)

/-- `LD H,E`: R250. -/
def execLdHE (s : State) : Result := .next (runLd (.reg .h) (.reg .e) s)

/-- `LD H,H`: R250. -/
def execLdHH (s : State) : Result := .next (runLd (.reg .h) (.reg .h) s)

/-- `LD H,L`: R250. -/
def execLdHL (s : State) : Result := .next (runLd (.reg .h) (.reg .l) s)

/-- `LD H,[HL]`: R251. -/
def execLdHAtHl (s : State) : Result := .next (runLd (.reg .h) .atHl s)

/-- `LD H,A`: R250. -/
def execLdHA (s : State) : Result := .next (runLd (.reg .h) (.reg .a) s)

/-- `LD L,B`: R250. -/
def execLdLB (s : State) : Result := .next (runLd (.reg .l) (.reg .b) s)

/-- `LD L,C`: R250. -/
def execLdLC (s : State) : Result := .next (runLd (.reg .l) (.reg .c) s)

/-- `LD L,D`: R250. -/
def execLdLD (s : State) : Result := .next (runLd (.reg .l) (.reg .d) s)

/-- `LD L,E`: R250. -/
def execLdLE (s : State) : Result := .next (runLd (.reg .l) (.reg .e) s)

/-- `LD L,H`: R250. -/
def execLdLH (s : State) : Result := .next (runLd (.reg .l) (.reg .h) s)

/-- `LD L,L`: R250. -/
def execLdLL (s : State) : Result := .next (runLd (.reg .l) (.reg .l) s)

/-- `LD L,[HL]`: R251. -/
def execLdLAtHl (s : State) : Result := .next (runLd (.reg .l) .atHl s)

/-- `LD L,A`: R250. -/
def execLdLA (s : State) : Result := .next (runLd (.reg .l) (.reg .a) s)

/-- `LD [HL],B`: R252. -/
def execLdAtHlB (s : State) : Result := .next (runLd .atHl (.reg .b) s)

/-- `LD [HL],C`: R252. -/
def execLdAtHlC (s : State) : Result := .next (runLd .atHl (.reg .c) s)

/-- `LD [HL],D`: R252. -/
def execLdAtHlD (s : State) : Result := .next (runLd .atHl (.reg .d) s)

/-- `LD [HL],E`: R252. -/
def execLdAtHlE (s : State) : Result := .next (runLd .atHl (.reg .e) s)

/-- `LD [HL],H`: R252. -/
def execLdAtHlH (s : State) : Result := .next (runLd .atHl (.reg .h) s)

/-- `LD [HL],L`: R252. -/
def execLdAtHlL (s : State) : Result := .next (runLd .atHl (.reg .l) s)

/-- `HALT`: R253. -/
def execHalt (s : State) : Result := .next (runHalt s)

/-- `LD [HL],A`: R252. -/
def execLdAtHlA (s : State) : Result := .next (runLd .atHl (.reg .a) s)

/-- `LD A,B`: R250. -/
def execLdAB (s : State) : Result := .next (runLd (.reg .a) (.reg .b) s)

/-- `LD A,C`: R250. -/
def execLdAC (s : State) : Result := .next (runLd (.reg .a) (.reg .c) s)

/-- `LD A,D`: R250. -/
def execLdAD (s : State) : Result := .next (runLd (.reg .a) (.reg .d) s)

/-- `LD A,E`: R250. -/
def execLdAE (s : State) : Result := .next (runLd (.reg .a) (.reg .e) s)

/-- `LD A,H`: R250. -/
def execLdAH (s : State) : Result := .next (runLd (.reg .a) (.reg .h) s)

/-- `LD A,L`: R250. -/
def execLdAL (s : State) : Result := .next (runLd (.reg .a) (.reg .l) s)

/-- `LD A,[HL]`: R251. -/
def execLdAAtHl (s : State) : Result := .next (runLd (.reg .a) .atHl s)

/-- `LD A,A`: R250. -/
def execLdAA (s : State) : Result := .next (runLd (.reg .a) (.reg .a) s)

end Sys2Proof.Machine
end

