-- ==== Sys2Proof/Machine/Block2.lean ====
section
/-! DEFINITION. Block 2 (43_block2_alu.md): the meanings of the rows 0x80 to 0xBF. -/

namespace Sys2Proof.Machine

/-! ### What the rows of this block share -/

/-- `alu A,r8` and `alu A,[HL]` (R270 to R285). -/
def runAlu (op : AluOp) (o : Operand8) (s : State) : State :=
  let r := s.readOperand8 o
  r.2.aluA op r.1

/-! ### The instructions -/

/-- `ADD A,B`: R270. -/
def execAddAB (s : State) : Result := .next (runAlu .add (.reg .b) s)

/-- `ADD A,C`: R270. -/
def execAddAC (s : State) : Result := .next (runAlu .add (.reg .c) s)

/-- `ADD A,D`: R270. -/
def execAddAD (s : State) : Result := .next (runAlu .add (.reg .d) s)

/-- `ADD A,E`: R270. -/
def execAddAE (s : State) : Result := .next (runAlu .add (.reg .e) s)

/-- `ADD A,H`: R270. -/
def execAddAH (s : State) : Result := .next (runAlu .add (.reg .h) s)

/-- `ADD A,L`: R270. -/
def execAddAL (s : State) : Result := .next (runAlu .add (.reg .l) s)

/-- `ADD A,[HL]`: R271. -/
def execAddAAtHl (s : State) : Result := .next (runAlu .add .atHl s)

/-- `ADD A,A`: R270. -/
def execAddAA (s : State) : Result := .next (runAlu .add (.reg .a) s)

/-- `ADC A,B`: R272. -/
def execAdcAB (s : State) : Result := .next (runAlu .adc (.reg .b) s)

/-- `ADC A,C`: R272. -/
def execAdcAC (s : State) : Result := .next (runAlu .adc (.reg .c) s)

/-- `ADC A,D`: R272. -/
def execAdcAD (s : State) : Result := .next (runAlu .adc (.reg .d) s)

/-- `ADC A,E`: R272. -/
def execAdcAE (s : State) : Result := .next (runAlu .adc (.reg .e) s)

/-- `ADC A,H`: R272. -/
def execAdcAH (s : State) : Result := .next (runAlu .adc (.reg .h) s)

/-- `ADC A,L`: R272. -/
def execAdcAL (s : State) : Result := .next (runAlu .adc (.reg .l) s)

/-- `ADC A,[HL]`: R273. -/
def execAdcAAtHl (s : State) : Result := .next (runAlu .adc .atHl s)

/-- `ADC A,A`: R272. -/
def execAdcAA (s : State) : Result := .next (runAlu .adc (.reg .a) s)

/-- `SUB A,B`: R274. -/
def execSubAB (s : State) : Result := .next (runAlu .sub (.reg .b) s)

/-- `SUB A,C`: R274. -/
def execSubAC (s : State) : Result := .next (runAlu .sub (.reg .c) s)

/-- `SUB A,D`: R274. -/
def execSubAD (s : State) : Result := .next (runAlu .sub (.reg .d) s)

/-- `SUB A,E`: R274. -/
def execSubAE (s : State) : Result := .next (runAlu .sub (.reg .e) s)

/-- `SUB A,H`: R274. -/
def execSubAH (s : State) : Result := .next (runAlu .sub (.reg .h) s)

/-- `SUB A,L`: R274. -/
def execSubAL (s : State) : Result := .next (runAlu .sub (.reg .l) s)

/-- `SUB A,[HL]`: R275. -/
def execSubAAtHl (s : State) : Result := .next (runAlu .sub .atHl s)

/-- `SUB A,A`: R274. -/
def execSubAA (s : State) : Result := .next (runAlu .sub (.reg .a) s)

/-- `SBC A,B`: R276. -/
def execSbcAB (s : State) : Result := .next (runAlu .sbc (.reg .b) s)

/-- `SBC A,C`: R276. -/
def execSbcAC (s : State) : Result := .next (runAlu .sbc (.reg .c) s)

/-- `SBC A,D`: R276. -/
def execSbcAD (s : State) : Result := .next (runAlu .sbc (.reg .d) s)

/-- `SBC A,E`: R276. -/
def execSbcAE (s : State) : Result := .next (runAlu .sbc (.reg .e) s)

/-- `SBC A,H`: R276. -/
def execSbcAH (s : State) : Result := .next (runAlu .sbc (.reg .h) s)

/-- `SBC A,L`: R276. -/
def execSbcAL (s : State) : Result := .next (runAlu .sbc (.reg .l) s)

/-- `SBC A,[HL]`: R277. -/
def execSbcAAtHl (s : State) : Result := .next (runAlu .sbc .atHl s)

/-- `SBC A,A`: R276. -/
def execSbcAA (s : State) : Result := .next (runAlu .sbc (.reg .a) s)

/-- `AND A,B`: R278. -/
def execAndAB (s : State) : Result := .next (runAlu .and (.reg .b) s)

/-- `AND A,C`: R278. -/
def execAndAC (s : State) : Result := .next (runAlu .and (.reg .c) s)

/-- `AND A,D`: R278. -/
def execAndAD (s : State) : Result := .next (runAlu .and (.reg .d) s)

/-- `AND A,E`: R278. -/
def execAndAE (s : State) : Result := .next (runAlu .and (.reg .e) s)

/-- `AND A,H`: R278. -/
def execAndAH (s : State) : Result := .next (runAlu .and (.reg .h) s)

/-- `AND A,L`: R278. -/
def execAndAL (s : State) : Result := .next (runAlu .and (.reg .l) s)

/-- `AND A,[HL]`: R279. -/
def execAndAAtHl (s : State) : Result := .next (runAlu .and .atHl s)

/-- `AND A,A`: R278. -/
def execAndAA (s : State) : Result := .next (runAlu .and (.reg .a) s)

/-- `XOR A,B`: R280. -/
def execXorAB (s : State) : Result := .next (runAlu .xor (.reg .b) s)

/-- `XOR A,C`: R280. -/
def execXorAC (s : State) : Result := .next (runAlu .xor (.reg .c) s)

/-- `XOR A,D`: R280. -/
def execXorAD (s : State) : Result := .next (runAlu .xor (.reg .d) s)

/-- `XOR A,E`: R280. -/
def execXorAE (s : State) : Result := .next (runAlu .xor (.reg .e) s)

/-- `XOR A,H`: R280. -/
def execXorAH (s : State) : Result := .next (runAlu .xor (.reg .h) s)

/-- `XOR A,L`: R280. -/
def execXorAL (s : State) : Result := .next (runAlu .xor (.reg .l) s)

/-- `XOR A,[HL]`: R281. -/
def execXorAAtHl (s : State) : Result := .next (runAlu .xor .atHl s)

/-- `XOR A,A`: R280. -/
def execXorAA (s : State) : Result := .next (runAlu .xor (.reg .a) s)

/-- `OR A,B`: R282. -/
def execOrAB (s : State) : Result := .next (runAlu .or (.reg .b) s)

/-- `OR A,C`: R282. -/
def execOrAC (s : State) : Result := .next (runAlu .or (.reg .c) s)

/-- `OR A,D`: R282. -/
def execOrAD (s : State) : Result := .next (runAlu .or (.reg .d) s)

/-- `OR A,E`: R282. -/
def execOrAE (s : State) : Result := .next (runAlu .or (.reg .e) s)

/-- `OR A,H`: R282. -/
def execOrAH (s : State) : Result := .next (runAlu .or (.reg .h) s)

/-- `OR A,L`: R282. -/
def execOrAL (s : State) : Result := .next (runAlu .or (.reg .l) s)

/-- `OR A,[HL]`: R283. -/
def execOrAAtHl (s : State) : Result := .next (runAlu .or .atHl s)

/-- `OR A,A`: R282. -/
def execOrAA (s : State) : Result := .next (runAlu .or (.reg .a) s)

/-- `CP A,B`: R284. -/
def execCpAB (s : State) : Result := .next (runAlu .cp (.reg .b) s)

/-- `CP A,C`: R284. -/
def execCpAC (s : State) : Result := .next (runAlu .cp (.reg .c) s)

/-- `CP A,D`: R284. -/
def execCpAD (s : State) : Result := .next (runAlu .cp (.reg .d) s)

/-- `CP A,E`: R284. -/
def execCpAE (s : State) : Result := .next (runAlu .cp (.reg .e) s)

/-- `CP A,H`: R284. -/
def execCpAH (s : State) : Result := .next (runAlu .cp (.reg .h) s)

/-- `CP A,L`: R284. -/
def execCpAL (s : State) : Result := .next (runAlu .cp (.reg .l) s)

/-- `CP A,[HL]`: R285. -/
def execCpAAtHl (s : State) : Result := .next (runAlu .cp .atHl s)

/-- `CP A,A`: R284. -/
def execCpAA (s : State) : Result := .next (runAlu .cp (.reg .a) s)

end Sys2Proof.Machine
end

