-- ==== Sys2Proof/Machine/Block3.lean ====
section
/-! DEFINITION. Block 3 (44_block3.md): the meanings of the rows 0xC0 to 0xFF, but for PREFIX CB (CbPrefix.lean). -/

namespace Sys2Proof.Machine

/-! ### What the rows of this block share -/

/-- `RET cc` (R300): the condition step, then the return if the condition holds. -/
def runRetCc (cc : Cond) (s : State) : State :=
  let s1 := s.internal
  if condHolds cc s1.flags then s1.returnFromCall else s1

/-- `RET` (R301). -/
def runRet (s : State) : State := s.returnFromCall

/-- `RETI` (R302). -/
def runReti (s : State) : State := s.returnFromInterrupt

/-- The taken absolute jump (R304): the load-PC step, then PC. -/
def runJp (n16 : Word) (s : State) : State := s.internal.setPc n16

/-- `JP cc,n16` (R303). -/
def runJpCc (cc : Cond) (n16 : Word) (s : State) : State := if condHolds cc s.flags then runJp n16 s else s

/-- `JP HL` (R305; C4): no load-PC step. -/
def runJpHl (s : State) : State := s.setPc s.hl

/-- The taken call (R306 to R308): an internal step, the push of PC as the fetch left it (log 26), then PC at the
target. -/
def runCall (target : Word) (s : State) : State :=
  let s1 := s.internal
  (s1.push16 s1.pc).setPc target

/-- `CALL cc,n16` (R306). -/
def runCallCc (cc : Cond) (n16 : Word) (s : State) : State := if condHolds cc s.flags then runCall n16 s else s

/-- `RST vec` (R308): a call of `y << 3`. -/
def runRst (y : Field3) (s : State) : State := runCall (BitVec.ofNat 16 (y.toNat <<< 3)) s

/-- `POP r16stk` (R309, R310). -/
def runPop (p : R16stk) (s : State) : State :=
  let r := s.pop16
  r.2.setR16stk p r.1

/-- `PUSH r16stk` (R311, R312). -/
def runPush (p : R16stk) (s : State) : State :=
  let s1 := s.internal
  s1.push16 (s1.r16stk p)

/-- `alu A,n8` (R313 to R320). -/
def runAluN8 (op : AluOp) (n8 : Byte) (s : State) : State := s.aluA op n8

/-- A load of A from an address (R322, R324, R326). -/
def loadA (addr : Word) (s : State) : State :=
  let r := s.memRead addr
  r.2.setReg8 .a r.1

/-- `LDH [n8],A` (R321). -/
def runLdhToN8A (n8 : Byte) (s : State) : State := s.memWrite (highPage n8) s.a

/-- `LDH A,[n8]` (R322). -/
def runLdhAFromN8 (n8 : Byte) (s : State) : State := loadA (highPage n8) s

/-- `LDH [C],A` (R323). -/
def runLdhToCA (s : State) : State := s.memWrite (highPage s.c) s.a

/-- `LDH A,[C]` (R324). -/
def runLdhAFromC (s : State) : State := loadA (highPage s.c) s

/-- `LD [n16],A` (R325). -/
def runLdToN16A (n16 : Word) (s : State) : State := s.memWrite n16 s.a

/-- `LD A,[n16]` (R326). -/
def runLdAFromN16 (n16 : Word) (s : State) : State := loadA n16 s

/-- `ADD SP,e8` (R327). -/
def runAddSp (e8 : Byte) (s : State) : State :=
  let s1 := s.internal.internal
  let out := addSpSigned8 s1.sp e8
  (s1.setSp out.1).applyFlags out.2

/-- `LD HL,SP+e8` (R328). -/
def runLdHlSp (e8 : Byte) (s : State) : State :=
  let s1 := s.internal
  let out := addSpSigned8 s1.sp e8
  (s1.setHl out.1).applyFlags out.2

/-- `LD SP,HL` (R329). -/
def runLdSpHl (s : State) : State :=
  let s1 := s.internal
  s1.setSp s1.hl

/-- `DI` (R330). -/
def runDi (s : State) : State := s.setIme false false

/-- `EI` (R331): only `ime_next`. -/
def runEi (s : State) : State := s.setIme s.ime true

/-- `ILLEGAL` (R333): the fatal condition, at the opcode's address (60_exceptions.md R402; log 18). -/
def runIllegal (opcode : Byte) (s : State) : State := s.raiseFatal (.illegalOpcode s.opcodePc opcode)

/-! ### The instructions -/

/-- `RET NZ`: R300. -/
def execRetNz (s : State) : Result := .next (runRetCc .nz s)

/-- `POP BC`: R309. -/
def execPopBc (s : State) : Result := .next (runPop .bc s)

/-- `JP NZ,n16`: R303. -/
def execJpNzN16 (n16 : Word) (s : State) : Result := .next (runJpCc .nz n16 s)

/-- `JP n16`: R304. -/
def execJpN16 (n16 : Word) (s : State) : Result := .next (runJp n16 s)

/-- `CALL NZ,n16`: R306. -/
def execCallNzN16 (n16 : Word) (s : State) : Result := .next (runCallCc .nz n16 s)

/-- `PUSH BC`: R311. -/
def execPushBc (s : State) : Result := .next (runPush .bc s)

/-- `ADD A,n8`: R313. -/
def execAddAN8 (n8 : Byte) (s : State) : Result := .next (runAluN8 .add n8 s)

/-- `RST 0x00`: R308. -/
def execRst00 (s : State) : Result := .next (runRst .f0 s)

/-- `RET Z`: R300. -/
def execRetZ (s : State) : Result := .next (runRetCc .z s)

/-- `RET`: R301. -/
def execRet (s : State) : Result := .next (runRet s)

/-- `JP Z,n16`: R303. -/
def execJpZN16 (n16 : Word) (s : State) : Result := .next (runJpCc .z n16 s)

/-- `CALL Z,n16`: R306. -/
def execCallZN16 (n16 : Word) (s : State) : Result := .next (runCallCc .z n16 s)

/-- `CALL n16`: R307. -/
def execCallN16 (n16 : Word) (s : State) : Result := .next (runCall n16 s)

/-- `ADC A,n8`: R314. -/
def execAdcAN8 (n8 : Byte) (s : State) : Result := .next (runAluN8 .adc n8 s)

/-- `RST 0x08`: R308. -/
def execRst08 (s : State) : Result := .next (runRst .f1 s)

/-- `RET NC`: R300. -/
def execRetNc (s : State) : Result := .next (runRetCc .nc s)

/-- `POP DE`: R309. -/
def execPopDe (s : State) : Result := .next (runPop .de s)

/-- `JP NC,n16`: R303. -/
def execJpNcN16 (n16 : Word) (s : State) : Result := .next (runJpCc .nc n16 s)

/-- `ILLEGAL` 0xD3: R333. -/
def execIllegalD3 (s : State) : Result := .next (runIllegal 0xD3#8 s)

/-- `CALL NC,n16`: R306. -/
def execCallNcN16 (n16 : Word) (s : State) : Result := .next (runCallCc .nc n16 s)

/-- `PUSH DE`: R311. -/
def execPushDe (s : State) : Result := .next (runPush .de s)

/-- `SUB A,n8`: R315. -/
def execSubAN8 (n8 : Byte) (s : State) : Result := .next (runAluN8 .sub n8 s)

/-- `RST 0x10`: R308. -/
def execRst10 (s : State) : Result := .next (runRst .f2 s)

/-- `RET C`: R300. -/
def execRetC (s : State) : Result := .next (runRetCc .c s)

/-- `RETI`: R302. -/
def execReti (s : State) : Result := .next (runReti s)

/-- `JP C,n16`: R303. -/
def execJpCN16 (n16 : Word) (s : State) : Result := .next (runJpCc .c n16 s)

/-- `ILLEGAL` 0xDB: R333. -/
def execIllegalDB (s : State) : Result := .next (runIllegal 0xDB#8 s)

/-- `CALL C,n16`: R306. -/
def execCallCN16 (n16 : Word) (s : State) : Result := .next (runCallCc .c n16 s)

/-- `ILLEGAL` 0xDD: R333. -/
def execIllegalDD (s : State) : Result := .next (runIllegal 0xDD#8 s)

/-- `SBC A,n8`: R316. -/
def execSbcAN8 (n8 : Byte) (s : State) : Result := .next (runAluN8 .sbc n8 s)

/-- `RST 0x18`: R308. -/
def execRst18 (s : State) : Result := .next (runRst .f3 s)

/-- `LDH [n8],A`: R321. -/
def execLdhAtN8A (n8 : Byte) (s : State) : Result := .next (runLdhToN8A n8 s)

/-- `POP HL`: R309. -/
def execPopHl (s : State) : Result := .next (runPop .hl s)

/-- `LDH [C],A`: R323. -/
def execLdhAtCA (s : State) : Result := .next (runLdhToCA s)

/-- `ILLEGAL` 0xE3: R333. -/
def execIllegalE3 (s : State) : Result := .next (runIllegal 0xE3#8 s)

/-- `ILLEGAL` 0xE4: R333. -/
def execIllegalE4 (s : State) : Result := .next (runIllegal 0xE4#8 s)

/-- `PUSH HL`: R311. -/
def execPushHl (s : State) : Result := .next (runPush .hl s)

/-- `AND A,n8`: R317. -/
def execAndAN8 (n8 : Byte) (s : State) : Result := .next (runAluN8 .and n8 s)

/-- `RST 0x20`: R308. -/
def execRst20 (s : State) : Result := .next (runRst .f4 s)

/-- `ADD SP,e8`: R327. -/
def execAddSpE8 (e8 : Byte) (s : State) : Result := .next (runAddSp e8 s)

/-- `JP HL`: R305. -/
def execJpHl (s : State) : Result := .next (runJpHl s)

/-- `LD [n16],A`: R325. -/
def execLdAtN16A (n16 : Word) (s : State) : Result := .next (runLdToN16A n16 s)

/-- `ILLEGAL` 0xEB: R333. -/
def execIllegalEB (s : State) : Result := .next (runIllegal 0xEB#8 s)

/-- `ILLEGAL` 0xEC: R333. -/
def execIllegalEC (s : State) : Result := .next (runIllegal 0xEC#8 s)

/-- `ILLEGAL` 0xED: R333. -/
def execIllegalED (s : State) : Result := .next (runIllegal 0xED#8 s)

/-- `XOR A,n8`: R318. -/
def execXorAN8 (n8 : Byte) (s : State) : Result := .next (runAluN8 .xor n8 s)

/-- `RST 0x28`: R308. -/
def execRst28 (s : State) : Result := .next (runRst .f5 s)

/-- `LDH A,[n8]`: R322. -/
def execLdhAAtN8 (n8 : Byte) (s : State) : Result := .next (runLdhAFromN8 n8 s)

/-- `POP AF`: R310. -/
def execPopAf (s : State) : Result := .next (runPop .af s)

/-- `LDH A,[C]`: R324. -/
def execLdhAAtC (s : State) : Result := .next (runLdhAFromC s)

/-- `DI`: R330. -/
def execDi (s : State) : Result := .next (runDi s)

/-- `ILLEGAL` 0xF4: R333. -/
def execIllegalF4 (s : State) : Result := .next (runIllegal 0xF4#8 s)

/-- `PUSH AF`: R312. -/
def execPushAf (s : State) : Result := .next (runPush .af s)

/-- `OR A,n8`: R319. -/
def execOrAN8 (n8 : Byte) (s : State) : Result := .next (runAluN8 .or n8 s)

/-- `RST 0x30`: R308. -/
def execRst30 (s : State) : Result := .next (runRst .f6 s)

/-- `LD HL,SP+e8`: R328. -/
def execLdHlSpE8 (e8 : Byte) (s : State) : Result := .next (runLdHlSp e8 s)

/-- `LD SP,HL`: R329. -/
def execLdSpHl (s : State) : Result := .next (runLdSpHl s)

/-- `LD A,[n16]`: R326. -/
def execLdAAtN16 (n16 : Word) (s : State) : Result := .next (runLdAFromN16 n16 s)

/-- `EI`: R331. -/
def execEi (s : State) : Result := .next (runEi s)

/-- `ILLEGAL` 0xFC: R333. -/
def execIllegalFC (s : State) : Result := .next (runIllegal 0xFC#8 s)

/-- `ILLEGAL` 0xFD: R333. -/
def execIllegalFD (s : State) : Result := .next (runIllegal 0xFD#8 s)

/-- `CP A,n8`: R320. -/
def execCpAN8 (n8 : Byte) (s : State) : Result := .next (runAluN8 .cp n8 s)

/-- `RST 0x38`: R308. -/
def execRst38 (s : State) : Result := .next (runRst .f7 s)

end Sys2Proof.Machine
end

