-- ==== Sys2Proof/Syntax.lean ====
section
/-! DEFINITION. The instruction set: one constructor per row of spec/opcode_table.json (512 rows: 256 primary,
256 behind 0xCB), operands already extracted. The row `PREFIX CB` is a constructor of its own (log 12).
Blocks 0 and 3 stand first: Lean's runtime takes no constructor with an argument past number 244. -/

namespace Sys2Proof

/-- The instructions. A constructor's argument is the immediate the row's encoding carries: n8, e8 (a raw byte,
read as signed by the meaning) or n16. The byte that STOP skips is not read and not kept (R101, R230). -/
inductive Instr where
  /-- `NOP`, R200. -/
  | nop
  /-- `LD BC,n16`, R201. -/
  | ldBcN16 (n16 : Word)
  /-- `LD [BC],A`, R202. -/
  | ldAtBcA
  /-- `INC BC`, R208. -/
  | incBc
  /-- `INC B`, R211. -/
  | incB
  /-- `DEC B`, R213. -/
  | decB
  /-- `LD B,n8`, R215. -/
  | ldBN8 (n8 : Byte)
  /-- `RLCA`, R217. -/
  | rlca
  /-- `LD [n16],SP`, R225. -/
  | ldAtN16Sp (n16 : Word)
  /-- `ADD HL,BC`, R210. -/
  | addHlBc
  /-- `LD A,[BC]`, R205. -/
  | ldAAtBc
  /-- `DEC BC`, R209. -/
  | decBc
  /-- `INC C`, R211. -/
  | incC
  /-- `DEC C`, R213. -/
  | decC
  /-- `LD C,n8`, R215. -/
  | ldCN8 (n8 : Byte)
  /-- `RRCA`, R218. -/
  | rrca
  /-- `STOP`, R230. -/
  | stop
  /-- `LD DE,n16`, R201. -/
  | ldDeN16 (n16 : Word)
  /-- `LD [DE],A`, R202. -/
  | ldAtDeA
  /-- `INC DE`, R208. -/
  | incDe
  /-- `INC D`, R211. -/
  | incD
  /-- `DEC D`, R213. -/
  | decD
  /-- `LD D,n8`, R215. -/
  | ldDN8 (n8 : Byte)
  /-- `RLA`, R219. -/
  | rla
  /-- `JR e8`, R226. -/
  | jrE8 (e8 : Byte)
  /-- `ADD HL,DE`, R210. -/
  | addHlDe
  /-- `LD A,[DE]`, R205. -/
  | ldAAtDe
  /-- `DEC DE`, R209. -/
  | decDe
  /-- `INC E`, R211. -/
  | incE
  /-- `DEC E`, R213. -/
  | decE
  /-- `LD E,n8`, R215. -/
  | ldEN8 (n8 : Byte)
  /-- `RRA`, R220. -/
  | rra
  /-- `JR NZ,e8`, R227. -/
  | jrNzE8 (e8 : Byte)
  /-- `LD HL,n16`, R201. -/
  | ldHlN16 (n16 : Word)
  /-- `LD [HL+],A`, R203. -/
  | ldAtHlIncA
  /-- `INC HL`, R208. -/
  | incHl
  /-- `INC H`, R211. -/
  | incH
  /-- `DEC H`, R213. -/
  | decH
  /-- `LD H,n8`, R215. -/
  | ldHN8 (n8 : Byte)
  /-- `DAA`, R221. -/
  | daa
  /-- `JR Z,e8`, R227. -/
  | jrZE8 (e8 : Byte)
  /-- `ADD HL,HL`, R210. -/
  | addHlHl
  /-- `LD A,[HL+]`, R206. -/
  | ldAAtHlInc
  /-- `DEC HL`, R209. -/
  | decHl
  /-- `INC L`, R211. -/
  | incL
  /-- `DEC L`, R213. -/
  | decL
  /-- `LD L,n8`, R215. -/
  | ldLN8 (n8 : Byte)
  /-- `CPL`, R222. -/
  | cpl
  /-- `JR NC,e8`, R227. -/
  | jrNcE8 (e8 : Byte)
  /-- `LD SP,n16`, R201. -/
  | ldSpN16 (n16 : Word)
  /-- `LD [HL-],A`, R204. -/
  | ldAtHlDecA
  /-- `INC SP`, R208. -/
  | incSp
  /-- `INC [HL]`, R212. -/
  | incAtHl
  /-- `DEC [HL]`, R214. -/
  | decAtHl
  /-- `LD [HL],n8`, R216. -/
  | ldAtHlN8 (n8 : Byte)
  /-- `SCF`, R223. -/
  | scf
  /-- `JR C,e8`, R227. -/
  | jrCE8 (e8 : Byte)
  /-- `ADD HL,SP`, R210. -/
  | addHlSp
  /-- `LD A,[HL-]`, R207. -/
  | ldAAtHlDec
  /-- `DEC SP`, R209. -/
  | decSp
  /-- `INC A`, R211. -/
  | incA
  /-- `DEC A`, R213. -/
  | decA
  /-- `LD A,n8`, R215. -/
  | ldAN8 (n8 : Byte)
  /-- `CCF`, R224. -/
  | ccf
  /-- `RET NZ`, R300. -/
  | retNz
  /-- `POP BC`, R309. -/
  | popBc
  /-- `JP NZ,n16`, R303. -/
  | jpNzN16 (n16 : Word)
  /-- `JP n16`, R304. -/
  | jpN16 (n16 : Word)
  /-- `CALL NZ,n16`, R306. -/
  | callNzN16 (n16 : Word)
  /-- `PUSH BC`, R311. -/
  | pushBc
  /-- `ADD A,n8`, R313. -/
  | addAN8 (n8 : Byte)
  /-- `RST 0x00`, R308. -/
  | rst00
  /-- `RET Z`, R300. -/
  | retZ
  /-- `RET`, R301. -/
  | ret
  /-- `JP Z,n16`, R303. -/
  | jpZN16 (n16 : Word)
  /-- `PREFIX CB`, R332. -/
  | prefixCb
  /-- `CALL Z,n16`, R306. -/
  | callZN16 (n16 : Word)
  /-- `CALL n16`, R307. -/
  | callN16 (n16 : Word)
  /-- `ADC A,n8`, R314. -/
  | adcAN8 (n8 : Byte)
  /-- `RST 0x08`, R308. -/
  | rst08
  /-- `RET NC`, R300. -/
  | retNc
  /-- `POP DE`, R309. -/
  | popDe
  /-- `JP NC,n16`, R303. -/
  | jpNcN16 (n16 : Word)
  /-- `ILLEGAL` (0xD3), R333. -/
  | illegalD3
  /-- `CALL NC,n16`, R306. -/
  | callNcN16 (n16 : Word)
  /-- `PUSH DE`, R311. -/
  | pushDe
  /-- `SUB A,n8`, R315. -/
  | subAN8 (n8 : Byte)
  /-- `RST 0x10`, R308. -/
  | rst10
  /-- `RET C`, R300. -/
  | retC
  /-- `RETI`, R302. -/
  | reti
  /-- `JP C,n16`, R303. -/
  | jpCN16 (n16 : Word)
  /-- `ILLEGAL` (0xDB), R333. -/
  | illegalDB
  /-- `CALL C,n16`, R306. -/
  | callCN16 (n16 : Word)
  /-- `ILLEGAL` (0xDD), R333. -/
  | illegalDD
  /-- `SBC A,n8`, R316. -/
  | sbcAN8 (n8 : Byte)
  /-- `RST 0x18`, R308. -/
  | rst18
  /-- `LDH [n8],A`, R321. -/
  | ldhAtN8A (n8 : Byte)
  /-- `POP HL`, R309. -/
  | popHl
  /-- `LDH [C],A`, R323. -/
  | ldhAtCA
  /-- `ILLEGAL` (0xE3), R333. -/
  | illegalE3
  /-- `ILLEGAL` (0xE4), R333. -/
  | illegalE4
  /-- `PUSH HL`, R311. -/
  | pushHl
  /-- `AND A,n8`, R317. -/
  | andAN8 (n8 : Byte)
  /-- `RST 0x20`, R308. -/
  | rst20
  /-- `ADD SP,e8`, R327. -/
  | addSpE8 (e8 : Byte)
  /-- `JP HL`, R305. -/
  | jpHl
  /-- `LD [n16],A`, R325. -/
  | ldAtN16A (n16 : Word)
  /-- `ILLEGAL` (0xEB), R333. -/
  | illegalEB
  /-- `ILLEGAL` (0xEC), R333. -/
  | illegalEC
  /-- `ILLEGAL` (0xED), R333. -/
  | illegalED
  /-- `XOR A,n8`, R318. -/
  | xorAN8 (n8 : Byte)
  /-- `RST 0x28`, R308. -/
  | rst28
  /-- `LDH A,[n8]`, R322. -/
  | ldhAAtN8 (n8 : Byte)
  /-- `POP AF`, R310. -/
  | popAf
  /-- `LDH A,[C]`, R324. -/
  | ldhAAtC
  /-- `DI`, R330. -/
  | di
  /-- `ILLEGAL` (0xF4), R333. -/
  | illegalF4
  /-- `PUSH AF`, R312. -/
  | pushAf
  /-- `OR A,n8`, R319. -/
  | orAN8 (n8 : Byte)
  /-- `RST 0x30`, R308. -/
  | rst30
  /-- `LD HL,SP+e8`, R328. -/
  | ldHlSpE8 (e8 : Byte)
  /-- `LD SP,HL`, R329. -/
  | ldSpHl
  /-- `LD A,[n16]`, R326. -/
  | ldAAtN16 (n16 : Word)
  /-- `EI`, R331. -/
  | ei
  /-- `ILLEGAL` (0xFC), R333. -/
  | illegalFC
  /-- `ILLEGAL` (0xFD), R333. -/
  | illegalFD
  /-- `CP A,n8`, R320. -/
  | cpAN8 (n8 : Byte)
  /-- `RST 0x38`, R308. -/
  | rst38
  /-- `LD B,B`, R250. -/
  | ldBB
  /-- `LD B,C`, R250. -/
  | ldBC
  /-- `LD B,D`, R250. -/
  | ldBD
  /-- `LD B,E`, R250. -/
  | ldBE
  /-- `LD B,H`, R250. -/
  | ldBH
  /-- `LD B,L`, R250. -/
  | ldBL
  /-- `LD B,[HL]`, R251. -/
  | ldBAtHl
  /-- `LD B,A`, R250. -/
  | ldBA
  /-- `LD C,B`, R250. -/
  | ldCB
  /-- `LD C,C`, R250. -/
  | ldCC
  /-- `LD C,D`, R250. -/
  | ldCD
  /-- `LD C,E`, R250. -/
  | ldCE
  /-- `LD C,H`, R250. -/
  | ldCH
  /-- `LD C,L`, R250. -/
  | ldCL
  /-- `LD C,[HL]`, R251. -/
  | ldCAtHl
  /-- `LD C,A`, R250. -/
  | ldCA
  /-- `LD D,B`, R250. -/
  | ldDB
  /-- `LD D,C`, R250. -/
  | ldDC
  /-- `LD D,D`, R250. -/
  | ldDD
  /-- `LD D,E`, R250. -/
  | ldDE
  /-- `LD D,H`, R250. -/
  | ldDH
  /-- `LD D,L`, R250. -/
  | ldDL
  /-- `LD D,[HL]`, R251. -/
  | ldDAtHl
  /-- `LD D,A`, R250. -/
  | ldDA
  /-- `LD E,B`, R250. -/
  | ldEB
  /-- `LD E,C`, R250. -/
  | ldEC
  /-- `LD E,D`, R250. -/
  | ldED
  /-- `LD E,E`, R250. -/
  | ldEE
  /-- `LD E,H`, R250. -/
  | ldEH
  /-- `LD E,L`, R250. -/
  | ldEL
  /-- `LD E,[HL]`, R251. -/
  | ldEAtHl
  /-- `LD E,A`, R250. -/
  | ldEA
  /-- `LD H,B`, R250. -/
  | ldHB
  /-- `LD H,C`, R250. -/
  | ldHC
  /-- `LD H,D`, R250. -/
  | ldHD
  /-- `LD H,E`, R250. -/
  | ldHE
  /-- `LD H,H`, R250. -/
  | ldHH
  /-- `LD H,L`, R250. -/
  | ldHL
  /-- `LD H,[HL]`, R251. -/
  | ldHAtHl
  /-- `LD H,A`, R250. -/
  | ldHA
  /-- `LD L,B`, R250. -/
  | ldLB
  /-- `LD L,C`, R250. -/
  | ldLC
  /-- `LD L,D`, R250. -/
  | ldLD
  /-- `LD L,E`, R250. -/
  | ldLE
  /-- `LD L,H`, R250. -/
  | ldLH
  /-- `LD L,L`, R250. -/
  | ldLL
  /-- `LD L,[HL]`, R251. -/
  | ldLAtHl
  /-- `LD L,A`, R250. -/
  | ldLA
  /-- `LD [HL],B`, R252. -/
  | ldAtHlB
  /-- `LD [HL],C`, R252. -/
  | ldAtHlC
  /-- `LD [HL],D`, R252. -/
  | ldAtHlD
  /-- `LD [HL],E`, R252. -/
  | ldAtHlE
  /-- `LD [HL],H`, R252. -/
  | ldAtHlH
  /-- `LD [HL],L`, R252. -/
  | ldAtHlL
  /-- `HALT`, R253. -/
  | halt
  /-- `LD [HL],A`, R252. -/
  | ldAtHlA
  /-- `LD A,B`, R250. -/
  | ldAB
  /-- `LD A,C`, R250. -/
  | ldAC
  /-- `LD A,D`, R250. -/
  | ldAD
  /-- `LD A,E`, R250. -/
  | ldAE
  /-- `LD A,H`, R250. -/
  | ldAH
  /-- `LD A,L`, R250. -/
  | ldAL
  /-- `LD A,[HL]`, R251. -/
  | ldAAtHl
  /-- `LD A,A`, R250. -/
  | ldAA
  /-- `ADD A,B`, R270. -/
  | addAB
  /-- `ADD A,C`, R270. -/
  | addAC
  /-- `ADD A,D`, R270. -/
  | addAD
  /-- `ADD A,E`, R270. -/
  | addAE
  /-- `ADD A,H`, R270. -/
  | addAH
  /-- `ADD A,L`, R270. -/
  | addAL
  /-- `ADD A,[HL]`, R271. -/
  | addAAtHl
  /-- `ADD A,A`, R270. -/
  | addAA
  /-- `ADC A,B`, R272. -/
  | adcAB
  /-- `ADC A,C`, R272. -/
  | adcAC
  /-- `ADC A,D`, R272. -/
  | adcAD
  /-- `ADC A,E`, R272. -/
  | adcAE
  /-- `ADC A,H`, R272. -/
  | adcAH
  /-- `ADC A,L`, R272. -/
  | adcAL
  /-- `ADC A,[HL]`, R273. -/
  | adcAAtHl
  /-- `ADC A,A`, R272. -/
  | adcAA
  /-- `SUB A,B`, R274. -/
  | subAB
  /-- `SUB A,C`, R274. -/
  | subAC
  /-- `SUB A,D`, R274. -/
  | subAD
  /-- `SUB A,E`, R274. -/
  | subAE
  /-- `SUB A,H`, R274. -/
  | subAH
  /-- `SUB A,L`, R274. -/
  | subAL
  /-- `SUB A,[HL]`, R275. -/
  | subAAtHl
  /-- `SUB A,A`, R274. -/
  | subAA
  /-- `SBC A,B`, R276. -/
  | sbcAB
  /-- `SBC A,C`, R276. -/
  | sbcAC
  /-- `SBC A,D`, R276. -/
  | sbcAD
  /-- `SBC A,E`, R276. -/
  | sbcAE
  /-- `SBC A,H`, R276. -/
  | sbcAH
  /-- `SBC A,L`, R276. -/
  | sbcAL
  /-- `SBC A,[HL]`, R277. -/
  | sbcAAtHl
  /-- `SBC A,A`, R276. -/
  | sbcAA
  /-- `AND A,B`, R278. -/
  | andAB
  /-- `AND A,C`, R278. -/
  | andAC
  /-- `AND A,D`, R278. -/
  | andAD
  /-- `AND A,E`, R278. -/
  | andAE
  /-- `AND A,H`, R278. -/
  | andAH
  /-- `AND A,L`, R278. -/
  | andAL
  /-- `AND A,[HL]`, R279. -/
  | andAAtHl
  /-- `AND A,A`, R278. -/
  | andAA
  /-- `XOR A,B`, R280. -/
  | xorAB
  /-- `XOR A,C`, R280. -/
  | xorAC
  /-- `XOR A,D`, R280. -/
  | xorAD
  /-- `XOR A,E`, R280. -/
  | xorAE
  /-- `XOR A,H`, R280. -/
  | xorAH
  /-- `XOR A,L`, R280. -/
  | xorAL
  /-- `XOR A,[HL]`, R281. -/
  | xorAAtHl
  /-- `XOR A,A`, R280. -/
  | xorAA
  /-- `OR A,B`, R282. -/
  | orAB
  /-- `OR A,C`, R282. -/
  | orAC
  /-- `OR A,D`, R282. -/
  | orAD
  /-- `OR A,E`, R282. -/
  | orAE
  /-- `OR A,H`, R282. -/
  | orAH
  /-- `OR A,L`, R282. -/
  | orAL
  /-- `OR A,[HL]`, R283. -/
  | orAAtHl
  /-- `OR A,A`, R282. -/
  | orAA
  /-- `CP A,B`, R284. -/
  | cpAB
  /-- `CP A,C`, R284. -/
  | cpAC
  /-- `CP A,D`, R284. -/
  | cpAD
  /-- `CP A,E`, R284. -/
  | cpAE
  /-- `CP A,H`, R284. -/
  | cpAH
  /-- `CP A,L`, R284. -/
  | cpAL
  /-- `CP A,[HL]`, R285. -/
  | cpAAtHl
  /-- `CP A,A`, R284. -/
  | cpAA
  /-- `RLC B`, R370. -/
  | rlcB
  /-- `RLC C`, R370. -/
  | rlcC
  /-- `RLC D`, R370. -/
  | rlcD
  /-- `RLC E`, R370. -/
  | rlcE
  /-- `RLC H`, R370. -/
  | rlcH
  /-- `RLC L`, R370. -/
  | rlcL
  /-- `RLC [HL]`, R371. -/
  | rlcAtHl
  /-- `RLC A`, R370. -/
  | rlcA
  /-- `RRC B`, R372. -/
  | rrcB
  /-- `RRC C`, R372. -/
  | rrcC
  /-- `RRC D`, R372. -/
  | rrcD
  /-- `RRC E`, R372. -/
  | rrcE
  /-- `RRC H`, R372. -/
  | rrcH
  /-- `RRC L`, R372. -/
  | rrcL
  /-- `RRC [HL]`, R373. -/
  | rrcAtHl
  /-- `RRC A`, R372. -/
  | rrcA
  /-- `RL B`, R374. -/
  | rlB
  /-- `RL C`, R374. -/
  | rlC
  /-- `RL D`, R374. -/
  | rlD
  /-- `RL E`, R374. -/
  | rlE
  /-- `RL H`, R374. -/
  | rlH
  /-- `RL L`, R374. -/
  | rlL
  /-- `RL [HL]`, R375. -/
  | rlAtHl
  /-- `RL A`, R374. -/
  | rlA
  /-- `RR B`, R376. -/
  | rrB
  /-- `RR C`, R376. -/
  | rrC
  /-- `RR D`, R376. -/
  | rrD
  /-- `RR E`, R376. -/
  | rrE
  /-- `RR H`, R376. -/
  | rrH
  /-- `RR L`, R376. -/
  | rrL
  /-- `RR [HL]`, R377. -/
  | rrAtHl
  /-- `RR A`, R376. -/
  | rrA
  /-- `SLA B`, R378. -/
  | slaB
  /-- `SLA C`, R378. -/
  | slaC
  /-- `SLA D`, R378. -/
  | slaD
  /-- `SLA E`, R378. -/
  | slaE
  /-- `SLA H`, R378. -/
  | slaH
  /-- `SLA L`, R378. -/
  | slaL
  /-- `SLA [HL]`, R379. -/
  | slaAtHl
  /-- `SLA A`, R378. -/
  | slaA
  /-- `SRA B`, R380. -/
  | sraB
  /-- `SRA C`, R380. -/
  | sraC
  /-- `SRA D`, R380. -/
  | sraD
  /-- `SRA E`, R380. -/
  | sraE
  /-- `SRA H`, R380. -/
  | sraH
  /-- `SRA L`, R380. -/
  | sraL
  /-- `SRA [HL]`, R381. -/
  | sraAtHl
  /-- `SRA A`, R380. -/
  | sraA
  /-- `SWAP B`, R382. -/
  | swapB
  /-- `SWAP C`, R382. -/
  | swapC
  /-- `SWAP D`, R382. -/
  | swapD
  /-- `SWAP E`, R382. -/
  | swapE
  /-- `SWAP H`, R382. -/
  | swapH
  /-- `SWAP L`, R382. -/
  | swapL
  /-- `SWAP [HL]`, R383. -/
  | swapAtHl
  /-- `SWAP A`, R382. -/
  | swapA
  /-- `SRL B`, R384. -/
  | srlB
  /-- `SRL C`, R384. -/
  | srlC
  /-- `SRL D`, R384. -/
  | srlD
  /-- `SRL E`, R384. -/
  | srlE
  /-- `SRL H`, R384. -/
  | srlH
  /-- `SRL L`, R384. -/
  | srlL
  /-- `SRL [HL]`, R385. -/
  | srlAtHl
  /-- `SRL A`, R384. -/
  | srlA
  /-- `BIT 0,B`, R386. -/
  | bit0B
  /-- `BIT 0,C`, R386. -/
  | bit0C
  /-- `BIT 0,D`, R386. -/
  | bit0D
  /-- `BIT 0,E`, R386. -/
  | bit0E
  /-- `BIT 0,H`, R386. -/
  | bit0H
  /-- `BIT 0,L`, R386. -/
  | bit0L
  /-- `BIT 0,[HL]`, R387. -/
  | bit0AtHl
  /-- `BIT 0,A`, R386. -/
  | bit0A
  /-- `BIT 1,B`, R386. -/
  | bit1B
  /-- `BIT 1,C`, R386. -/
  | bit1C
  /-- `BIT 1,D`, R386. -/
  | bit1D
  /-- `BIT 1,E`, R386. -/
  | bit1E
  /-- `BIT 1,H`, R386. -/
  | bit1H
  /-- `BIT 1,L`, R386. -/
  | bit1L
  /-- `BIT 1,[HL]`, R387. -/
  | bit1AtHl
  /-- `BIT 1,A`, R386. -/
  | bit1A
  /-- `BIT 2,B`, R386. -/
  | bit2B
  /-- `BIT 2,C`, R386. -/
  | bit2C
  /-- `BIT 2,D`, R386. -/
  | bit2D
  /-- `BIT 2,E`, R386. -/
  | bit2E
  /-- `BIT 2,H`, R386. -/
  | bit2H
  /-- `BIT 2,L`, R386. -/
  | bit2L
  /-- `BIT 2,[HL]`, R387. -/
  | bit2AtHl
  /-- `BIT 2,A`, R386. -/
  | bit2A
  /-- `BIT 3,B`, R386. -/
  | bit3B
  /-- `BIT 3,C`, R386. -/
  | bit3C
  /-- `BIT 3,D`, R386. -/
  | bit3D
  /-- `BIT 3,E`, R386. -/
  | bit3E
  /-- `BIT 3,H`, R386. -/
  | bit3H
  /-- `BIT 3,L`, R386. -/
  | bit3L
  /-- `BIT 3,[HL]`, R387. -/
  | bit3AtHl
  /-- `BIT 3,A`, R386. -/
  | bit3A
  /-- `BIT 4,B`, R386. -/
  | bit4B
  /-- `BIT 4,C`, R386. -/
  | bit4C
  /-- `BIT 4,D`, R386. -/
  | bit4D
  /-- `BIT 4,E`, R386. -/
  | bit4E
  /-- `BIT 4,H`, R386. -/
  | bit4H
  /-- `BIT 4,L`, R386. -/
  | bit4L
  /-- `BIT 4,[HL]`, R387. -/
  | bit4AtHl
  /-- `BIT 4,A`, R386. -/
  | bit4A
  /-- `BIT 5,B`, R386. -/
  | bit5B
  /-- `BIT 5,C`, R386. -/
  | bit5C
  /-- `BIT 5,D`, R386. -/
  | bit5D
  /-- `BIT 5,E`, R386. -/
  | bit5E
  /-- `BIT 5,H`, R386. -/
  | bit5H
  /-- `BIT 5,L`, R386. -/
  | bit5L
  /-- `BIT 5,[HL]`, R387. -/
  | bit5AtHl
  /-- `BIT 5,A`, R386. -/
  | bit5A
  /-- `BIT 6,B`, R386. -/
  | bit6B
  /-- `BIT 6,C`, R386. -/
  | bit6C
  /-- `BIT 6,D`, R386. -/
  | bit6D
  /-- `BIT 6,E`, R386. -/
  | bit6E
  /-- `BIT 6,H`, R386. -/
  | bit6H
  /-- `BIT 6,L`, R386. -/
  | bit6L
  /-- `BIT 6,[HL]`, R387. -/
  | bit6AtHl
  /-- `BIT 6,A`, R386. -/
  | bit6A
  /-- `BIT 7,B`, R386. -/
  | bit7B
  /-- `BIT 7,C`, R386. -/
  | bit7C
  /-- `BIT 7,D`, R386. -/
  | bit7D
  /-- `BIT 7,E`, R386. -/
  | bit7E
  /-- `BIT 7,H`, R386. -/
  | bit7H
  /-- `BIT 7,L`, R386. -/
  | bit7L
  /-- `BIT 7,[HL]`, R387. -/
  | bit7AtHl
  /-- `BIT 7,A`, R386. -/
  | bit7A
  /-- `RES 0,B`, R388. -/
  | res0B
  /-- `RES 0,C`, R388. -/
  | res0C
  /-- `RES 0,D`, R388. -/
  | res0D
  /-- `RES 0,E`, R388. -/
  | res0E
  /-- `RES 0,H`, R388. -/
  | res0H
  /-- `RES 0,L`, R388. -/
  | res0L
  /-- `RES 0,[HL]`, R389. -/
  | res0AtHl
  /-- `RES 0,A`, R388. -/
  | res0A
  /-- `RES 1,B`, R388. -/
  | res1B
  /-- `RES 1,C`, R388. -/
  | res1C
  /-- `RES 1,D`, R388. -/
  | res1D
  /-- `RES 1,E`, R388. -/
  | res1E
  /-- `RES 1,H`, R388. -/
  | res1H
  /-- `RES 1,L`, R388. -/
  | res1L
  /-- `RES 1,[HL]`, R389. -/
  | res1AtHl
  /-- `RES 1,A`, R388. -/
  | res1A
  /-- `RES 2,B`, R388. -/
  | res2B
  /-- `RES 2,C`, R388. -/
  | res2C
  /-- `RES 2,D`, R388. -/
  | res2D
  /-- `RES 2,E`, R388. -/
  | res2E
  /-- `RES 2,H`, R388. -/
  | res2H
  /-- `RES 2,L`, R388. -/
  | res2L
  /-- `RES 2,[HL]`, R389. -/
  | res2AtHl
  /-- `RES 2,A`, R388. -/
  | res2A
  /-- `RES 3,B`, R388. -/
  | res3B
  /-- `RES 3,C`, R388. -/
  | res3C
  /-- `RES 3,D`, R388. -/
  | res3D
  /-- `RES 3,E`, R388. -/
  | res3E
  /-- `RES 3,H`, R388. -/
  | res3H
  /-- `RES 3,L`, R388. -/
  | res3L
  /-- `RES 3,[HL]`, R389. -/
  | res3AtHl
  /-- `RES 3,A`, R388. -/
  | res3A
  /-- `RES 4,B`, R388. -/
  | res4B
  /-- `RES 4,C`, R388. -/
  | res4C
  /-- `RES 4,D`, R388. -/
  | res4D
  /-- `RES 4,E`, R388. -/
  | res4E
  /-- `RES 4,H`, R388. -/
  | res4H
  /-- `RES 4,L`, R388. -/
  | res4L
  /-- `RES 4,[HL]`, R389. -/
  | res4AtHl
  /-- `RES 4,A`, R388. -/
  | res4A
  /-- `RES 5,B`, R388. -/
  | res5B
  /-- `RES 5,C`, R388. -/
  | res5C
  /-- `RES 5,D`, R388. -/
  | res5D
  /-- `RES 5,E`, R388. -/
  | res5E
  /-- `RES 5,H`, R388. -/
  | res5H
  /-- `RES 5,L`, R388. -/
  | res5L
  /-- `RES 5,[HL]`, R389. -/
  | res5AtHl
  /-- `RES 5,A`, R388. -/
  | res5A
  /-- `RES 6,B`, R388. -/
  | res6B
  /-- `RES 6,C`, R388. -/
  | res6C
  /-- `RES 6,D`, R388. -/
  | res6D
  /-- `RES 6,E`, R388. -/
  | res6E
  /-- `RES 6,H`, R388. -/
  | res6H
  /-- `RES 6,L`, R388. -/
  | res6L
  /-- `RES 6,[HL]`, R389. -/
  | res6AtHl
  /-- `RES 6,A`, R388. -/
  | res6A
  /-- `RES 7,B`, R388. -/
  | res7B
  /-- `RES 7,C`, R388. -/
  | res7C
  /-- `RES 7,D`, R388. -/
  | res7D
  /-- `RES 7,E`, R388. -/
  | res7E
  /-- `RES 7,H`, R388. -/
  | res7H
  /-- `RES 7,L`, R388. -/
  | res7L
  /-- `RES 7,[HL]`, R389. -/
  | res7AtHl
  /-- `RES 7,A`, R388. -/
  | res7A
  /-- `SET 0,B`, R390. -/
  | set0B
  /-- `SET 0,C`, R390. -/
  | set0C
  /-- `SET 0,D`, R390. -/
  | set0D
  /-- `SET 0,E`, R390. -/
  | set0E
  /-- `SET 0,H`, R390. -/
  | set0H
  /-- `SET 0,L`, R390. -/
  | set0L
  /-- `SET 0,[HL]`, R391. -/
  | set0AtHl
  /-- `SET 0,A`, R390. -/
  | set0A
  /-- `SET 1,B`, R390. -/
  | set1B
  /-- `SET 1,C`, R390. -/
  | set1C
  /-- `SET 1,D`, R390. -/
  | set1D
  /-- `SET 1,E`, R390. -/
  | set1E
  /-- `SET 1,H`, R390. -/
  | set1H
  /-- `SET 1,L`, R390. -/
  | set1L
  /-- `SET 1,[HL]`, R391. -/
  | set1AtHl
  /-- `SET 1,A`, R390. -/
  | set1A
  /-- `SET 2,B`, R390. -/
  | set2B
  /-- `SET 2,C`, R390. -/
  | set2C
  /-- `SET 2,D`, R390. -/
  | set2D
  /-- `SET 2,E`, R390. -/
  | set2E
  /-- `SET 2,H`, R390. -/
  | set2H
  /-- `SET 2,L`, R390. -/
  | set2L
  /-- `SET 2,[HL]`, R391. -/
  | set2AtHl
  /-- `SET 2,A`, R390. -/
  | set2A
  /-- `SET 3,B`, R390. -/
  | set3B
  /-- `SET 3,C`, R390. -/
  | set3C
  /-- `SET 3,D`, R390. -/
  | set3D
  /-- `SET 3,E`, R390. -/
  | set3E
  /-- `SET 3,H`, R390. -/
  | set3H
  /-- `SET 3,L`, R390. -/
  | set3L
  /-- `SET 3,[HL]`, R391. -/
  | set3AtHl
  /-- `SET 3,A`, R390. -/
  | set3A
  /-- `SET 4,B`, R390. -/
  | set4B
  /-- `SET 4,C`, R390. -/
  | set4C
  /-- `SET 4,D`, R390. -/
  | set4D
  /-- `SET 4,E`, R390. -/
  | set4E
  /-- `SET 4,H`, R390. -/
  | set4H
  /-- `SET 4,L`, R390. -/
  | set4L
  /-- `SET 4,[HL]`, R391. -/
  | set4AtHl
  /-- `SET 4,A`, R390. -/
  | set4A
  /-- `SET 5,B`, R390. -/
  | set5B
  /-- `SET 5,C`, R390. -/
  | set5C
  /-- `SET 5,D`, R390. -/
  | set5D
  /-- `SET 5,E`, R390. -/
  | set5E
  /-- `SET 5,H`, R390. -/
  | set5H
  /-- `SET 5,L`, R390. -/
  | set5L
  /-- `SET 5,[HL]`, R391. -/
  | set5AtHl
  /-- `SET 5,A`, R390. -/
  | set5A
  /-- `SET 6,B`, R390. -/
  | set6B
  /-- `SET 6,C`, R390. -/
  | set6C
  /-- `SET 6,D`, R390. -/
  | set6D
  /-- `SET 6,E`, R390. -/
  | set6E
  /-- `SET 6,H`, R390. -/
  | set6H
  /-- `SET 6,L`, R390. -/
  | set6L
  /-- `SET 6,[HL]`, R391. -/
  | set6AtHl
  /-- `SET 6,A`, R390. -/
  | set6A
  /-- `SET 7,B`, R390. -/
  | set7B
  /-- `SET 7,C`, R390. -/
  | set7C
  /-- `SET 7,D`, R390. -/
  | set7D
  /-- `SET 7,E`, R390. -/
  | set7E
  /-- `SET 7,H`, R390. -/
  | set7H
  /-- `SET 7,L`, R390. -/
  | set7L
  /-- `SET 7,[HL]`, R391. -/
  | set7AtHl
  /-- `SET 7,A`, R390. -/
  | set7A
deriving DecidableEq, Repr

end Sys2Proof
end

