-- ==== Sys2Proof/WellFormed.lean ====
section
/-! DEFINITION. Which terms of `Instr` are complete instructions. -/

namespace Sys2Proof

/-- A complete instruction. Every operand's range is carried by its type; the one term that is no instruction on its
own is the escape byte 0xCB without its second byte ("It is not an instruction on its own", 30_encoding.md R132). -/
def WellFormed (i : Instr) : Bool := decide (i ≠ .prefixCb)

end Sys2Proof
end

