-- ==== Sys2Proof/Decode.lean ====
section
/-! DEFINITION. Decoding (30_encoding.md): operand tables (R104 to R110), the opcode maps block by block (R121 to R125),
a total decoder of byte lists that rejects by name, the encoder written from the opcode maps, and the host's entry point. -/

namespace Sys2Proof

/-! ### Operand decode tables -/

/-- R8 (R104): index 6 is the memory byte at HL. -/
def r8Table : Field3 → Operand8
  | .f0 => .reg .b
  | .f1 => .reg .c
  | .f2 => .reg .d
  | .f3 => .reg .e
  | .f4 => .reg .h
  | .f5 => .reg .l
  | .f6 => .atHl
  | .f7 => .reg .a

/-- R16 (R105). -/
def r16Table : Field2 → R16
  | .f0 => .bc
  | .f1 => .de
  | .f2 => .hl
  | .f3 => .sp

/-- R16mem (R106). -/
def r16memTable : Field2 → R16mem
  | .f0 => .bc
  | .f1 => .de
  | .f2 => .hlInc
  | .f3 => .hlDec

/-- R16stk (R107). -/
def r16stkTable : Field2 → R16stk
  | .f0 => .bc
  | .f1 => .de
  | .f2 => .hl
  | .f3 => .af

/-- cond (R108): "bits[4:3] of the opcode select, in fixed order, {NZ, Z, NC, C}". -/
def condTable : Field2 → Cond
  | .f0 => .nz
  | .f1 => .z
  | .f2 => .nc
  | .f3 => .c

/-- The ALU operation (R109). -/
def aluTable : Field3 → AluOp
  | .f0 => .add
  | .f1 => .adc
  | .f2 => .sub
  | .f3 => .sbc
  | .f4 => .and
  | .f5 => .xor
  | .f6 => .or
  | .f7 => .cp

/-- The CB rotate or shift operation (R110). -/
def rotTable : Field3 → RotOp
  | .f0 => .rlc
  | .f1 => .rrc
  | .f2 => .rl
  | .f3 => .rr
  | .f4 => .sla
  | .f5 => .sra
  | .f6 => .swap
  | .f7 => .srl

/-! ### Rows by operand: the cells of the opcode maps (R120, R125) that differ in an operand only -/

/-- `LD r16,n16` (R201). -/
def instrLdR16N16 : R16 → Word → Instr
  | .bc => .ldBcN16
  | .de => .ldDeN16
  | .hl => .ldHlN16
  | .sp => .ldSpN16

/-- `LD [r16mem],A` (R202 to R204). -/
def instrLdAtR16memA : R16mem → Instr
  | .bc => .ldAtBcA
  | .de => .ldAtDeA
  | .hlInc => .ldAtHlIncA
  | .hlDec => .ldAtHlDecA

/-- `LD A,[r16mem]` (R205 to R207). -/
def instrLdAAtR16mem : R16mem → Instr
  | .bc => .ldAAtBc
  | .de => .ldAAtDe
  | .hlInc => .ldAAtHlInc
  | .hlDec => .ldAAtHlDec

/-- `INC r16` (R208). -/
def instrIncR16 : R16 → Instr
  | .bc => .incBc
  | .de => .incDe
  | .hl => .incHl
  | .sp => .incSp

/-- `DEC r16` (R209). -/
def instrDecR16 : R16 → Instr
  | .bc => .decBc
  | .de => .decDe
  | .hl => .decHl
  | .sp => .decSp

/-- `ADD HL,r16` (R210). -/
def instrAddHl : R16 → Instr
  | .bc => .addHlBc
  | .de => .addHlDe
  | .hl => .addHlHl
  | .sp => .addHlSp

/-- `INC r8`, register forms (R211). -/
def instrIncR : Reg8 → Instr
  | .b => .incB
  | .c => .incC
  | .d => .incD
  | .e => .incE
  | .h => .incH
  | .l => .incL
  | .a => .incA

/-- `DEC r8`, register forms (R213). -/
def instrDecR : Reg8 → Instr
  | .b => .decB
  | .c => .decC
  | .d => .decD
  | .e => .decE
  | .h => .decH
  | .l => .decL
  | .a => .decA

/-- `LD r8,n8`, register forms (R215). -/
def instrLdRN8 : Reg8 → Byte → Instr
  | .b => .ldBN8
  | .c => .ldCN8
  | .d => .ldDN8
  | .e => .ldEN8
  | .h => .ldHN8
  | .l => .ldLN8
  | .a => .ldAN8

/-- The accumulator rotates (R217 to R220). -/
def instrRotA : RotAOp → Instr
  | .rlca => .rlca
  | .rrca => .rrca
  | .rla => .rla
  | .rra => .rra

/-- `JR cc,e8` (R227). -/
def instrJrCc : Cond → Byte → Instr
  | .nz => .jrNzE8
  | .z => .jrZE8
  | .nc => .jrNcE8
  | .c => .jrCE8

/-- `LD r8,r8'` (R250). -/
def instrLdRR : Reg8 → Reg8 → Instr
  | .b, .b => .ldBB
  | .b, .c => .ldBC
  | .b, .d => .ldBD
  | .b, .e => .ldBE
  | .b, .h => .ldBH
  | .b, .l => .ldBL
  | .b, .a => .ldBA
  | .c, .b => .ldCB
  | .c, .c => .ldCC
  | .c, .d => .ldCD
  | .c, .e => .ldCE
  | .c, .h => .ldCH
  | .c, .l => .ldCL
  | .c, .a => .ldCA
  | .d, .b => .ldDB
  | .d, .c => .ldDC
  | .d, .d => .ldDD
  | .d, .e => .ldDE
  | .d, .h => .ldDH
  | .d, .l => .ldDL
  | .d, .a => .ldDA
  | .e, .b => .ldEB
  | .e, .c => .ldEC
  | .e, .d => .ldED
  | .e, .e => .ldEE
  | .e, .h => .ldEH
  | .e, .l => .ldEL
  | .e, .a => .ldEA
  | .h, .b => .ldHB
  | .h, .c => .ldHC
  | .h, .d => .ldHD
  | .h, .e => .ldHE
  | .h, .h => .ldHH
  | .h, .l => .ldHL
  | .h, .a => .ldHA
  | .l, .b => .ldLB
  | .l, .c => .ldLC
  | .l, .d => .ldLD
  | .l, .e => .ldLE
  | .l, .h => .ldLH
  | .l, .l => .ldLL
  | .l, .a => .ldLA
  | .a, .b => .ldAB
  | .a, .c => .ldAC
  | .a, .d => .ldAD
  | .a, .e => .ldAE
  | .a, .h => .ldAH
  | .a, .l => .ldAL
  | .a, .a => .ldAA

/-- `LD r8,[HL]` (R251). -/
def instrLdRAtHl : Reg8 → Instr
  | .b => .ldBAtHl
  | .c => .ldCAtHl
  | .d => .ldDAtHl
  | .e => .ldEAtHl
  | .h => .ldHAtHl
  | .l => .ldLAtHl
  | .a => .ldAAtHl

/-- `LD [HL],r8` (R252). -/
def instrLdAtHlR : Reg8 → Instr
  | .b => .ldAtHlB
  | .c => .ldAtHlC
  | .d => .ldAtHlD
  | .e => .ldAtHlE
  | .h => .ldAtHlH
  | .l => .ldAtHlL
  | .a => .ldAtHlA

/-- `alu A,r8`, register forms (R270, R272, R274, R276, R278, R280, R282, R284). -/
def instrAluR : AluOp → Reg8 → Instr
  | .add, .b => .addAB
  | .add, .c => .addAC
  | .add, .d => .addAD
  | .add, .e => .addAE
  | .add, .h => .addAH
  | .add, .l => .addAL
  | .add, .a => .addAA
  | .adc, .b => .adcAB
  | .adc, .c => .adcAC
  | .adc, .d => .adcAD
  | .adc, .e => .adcAE
  | .adc, .h => .adcAH
  | .adc, .l => .adcAL
  | .adc, .a => .adcAA
  | .sub, .b => .subAB
  | .sub, .c => .subAC
  | .sub, .d => .subAD
  | .sub, .e => .subAE
  | .sub, .h => .subAH
  | .sub, .l => .subAL
  | .sub, .a => .subAA
  | .sbc, .b => .sbcAB
  | .sbc, .c => .sbcAC
  | .sbc, .d => .sbcAD
  | .sbc, .e => .sbcAE
  | .sbc, .h => .sbcAH
  | .sbc, .l => .sbcAL
  | .sbc, .a => .sbcAA
  | .and, .b => .andAB
  | .and, .c => .andAC
  | .and, .d => .andAD
  | .and, .e => .andAE
  | .and, .h => .andAH
  | .and, .l => .andAL
  | .and, .a => .andAA
  | .xor, .b => .xorAB
  | .xor, .c => .xorAC
  | .xor, .d => .xorAD
  | .xor, .e => .xorAE
  | .xor, .h => .xorAH
  | .xor, .l => .xorAL
  | .xor, .a => .xorAA
  | .or, .b => .orAB
  | .or, .c => .orAC
  | .or, .d => .orAD
  | .or, .e => .orAE
  | .or, .h => .orAH
  | .or, .l => .orAL
  | .or, .a => .orAA
  | .cp, .b => .cpAB
  | .cp, .c => .cpAC
  | .cp, .d => .cpAD
  | .cp, .e => .cpAE
  | .cp, .h => .cpAH
  | .cp, .l => .cpAL
  | .cp, .a => .cpAA

/-- `alu A,[HL]` (R271, R273, R275, R277, R279, R281, R283, R285). -/
def instrAluAtHl : AluOp → Instr
  | .add => .addAAtHl
  | .adc => .adcAAtHl
  | .sub => .subAAtHl
  | .sbc => .sbcAAtHl
  | .and => .andAAtHl
  | .xor => .xorAAtHl
  | .or => .orAAtHl
  | .cp => .cpAAtHl

/-- `alu A,n8` (R313 to R320). -/
def instrAluN8 : AluOp → Byte → Instr
  | .add => .addAN8
  | .adc => .adcAN8
  | .sub => .subAN8
  | .sbc => .sbcAN8
  | .and => .andAN8
  | .xor => .xorAN8
  | .or => .orAN8
  | .cp => .cpAN8

/-- `RET cc` (R300). -/
def instrRetCc : Cond → Instr
  | .nz => .retNz
  | .z => .retZ
  | .nc => .retNc
  | .c => .retC

/-- `JP cc,n16` (R303). -/
def instrJpCc : Cond → Word → Instr
  | .nz => .jpNzN16
  | .z => .jpZN16
  | .nc => .jpNcN16
  | .c => .jpCN16

/-- `CALL cc,n16` (R306). -/
def instrCallCc : Cond → Word → Instr
  | .nz => .callNzN16
  | .z => .callZN16
  | .nc => .callNcN16
  | .c => .callCN16

/-- `RST vec`, by y (R308). -/
def instrRst : Field3 → Instr
  | .f0 => .rst00
  | .f1 => .rst08
  | .f2 => .rst10
  | .f3 => .rst18
  | .f4 => .rst20
  | .f5 => .rst28
  | .f6 => .rst30
  | .f7 => .rst38

/-- `POP r16stk` (R309, R310). -/
def instrPop : R16stk → Instr
  | .bc => .popBc
  | .de => .popDe
  | .hl => .popHl
  | .af => .popAf

/-- `PUSH r16stk` (R311, R312). -/
def instrPush : R16stk → Instr
  | .bc => .pushBc
  | .de => .pushDe
  | .hl => .pushHl
  | .af => .pushAf

/-- `ILLEGAL`, by its byte (R333). -/
def instrIllegal : IllegalByte → Instr
  | .d3 => .illegalD3
  | .db => .illegalDB
  | .dd => .illegalDD
  | .e3 => .illegalE3
  | .e4 => .illegalE4
  | .eb => .illegalEB
  | .ec => .illegalEC
  | .ed => .illegalED
  | .f4 => .illegalF4
  | .fc => .illegalFC
  | .fd => .illegalFD

/-- `op r8` of CB group 00 (R370 to R384). -/
def instrRotR : RotOp → Reg8 → Instr
  | .rlc, .b => .rlcB
  | .rlc, .c => .rlcC
  | .rlc, .d => .rlcD
  | .rlc, .e => .rlcE
  | .rlc, .h => .rlcH
  | .rlc, .l => .rlcL
  | .rlc, .a => .rlcA
  | .rrc, .b => .rrcB
  | .rrc, .c => .rrcC
  | .rrc, .d => .rrcD
  | .rrc, .e => .rrcE
  | .rrc, .h => .rrcH
  | .rrc, .l => .rrcL
  | .rrc, .a => .rrcA
  | .rl, .b => .rlB
  | .rl, .c => .rlC
  | .rl, .d => .rlD
  | .rl, .e => .rlE
  | .rl, .h => .rlH
  | .rl, .l => .rlL
  | .rl, .a => .rlA
  | .rr, .b => .rrB
  | .rr, .c => .rrC
  | .rr, .d => .rrD
  | .rr, .e => .rrE
  | .rr, .h => .rrH
  | .rr, .l => .rrL
  | .rr, .a => .rrA
  | .sla, .b => .slaB
  | .sla, .c => .slaC
  | .sla, .d => .slaD
  | .sla, .e => .slaE
  | .sla, .h => .slaH
  | .sla, .l => .slaL
  | .sla, .a => .slaA
  | .sra, .b => .sraB
  | .sra, .c => .sraC
  | .sra, .d => .sraD
  | .sra, .e => .sraE
  | .sra, .h => .sraH
  | .sra, .l => .sraL
  | .sra, .a => .sraA
  | .swap, .b => .swapB
  | .swap, .c => .swapC
  | .swap, .d => .swapD
  | .swap, .e => .swapE
  | .swap, .h => .swapH
  | .swap, .l => .swapL
  | .swap, .a => .swapA
  | .srl, .b => .srlB
  | .srl, .c => .srlC
  | .srl, .d => .srlD
  | .srl, .e => .srlE
  | .srl, .h => .srlH
  | .srl, .l => .srlL
  | .srl, .a => .srlA

/-- `op [HL]` of CB group 00 (R371 to R385). -/
def instrRotAtHl : RotOp → Instr
  | .rlc => .rlcAtHl
  | .rrc => .rrcAtHl
  | .rl => .rlAtHl
  | .rr => .rrAtHl
  | .sla => .slaAtHl
  | .sra => .sraAtHl
  | .swap => .swapAtHl
  | .srl => .srlAtHl

/-- `BIT b,r8` (R386). -/
def instrBitR : Field3 → Reg8 → Instr
  | .f0, .b => .bit0B
  | .f0, .c => .bit0C
  | .f0, .d => .bit0D
  | .f0, .e => .bit0E
  | .f0, .h => .bit0H
  | .f0, .l => .bit0L
  | .f0, .a => .bit0A
  | .f1, .b => .bit1B
  | .f1, .c => .bit1C
  | .f1, .d => .bit1D
  | .f1, .e => .bit1E
  | .f1, .h => .bit1H
  | .f1, .l => .bit1L
  | .f1, .a => .bit1A
  | .f2, .b => .bit2B
  | .f2, .c => .bit2C
  | .f2, .d => .bit2D
  | .f2, .e => .bit2E
  | .f2, .h => .bit2H
  | .f2, .l => .bit2L
  | .f2, .a => .bit2A
  | .f3, .b => .bit3B
  | .f3, .c => .bit3C
  | .f3, .d => .bit3D
  | .f3, .e => .bit3E
  | .f3, .h => .bit3H
  | .f3, .l => .bit3L
  | .f3, .a => .bit3A
  | .f4, .b => .bit4B
  | .f4, .c => .bit4C
  | .f4, .d => .bit4D
  | .f4, .e => .bit4E
  | .f4, .h => .bit4H
  | .f4, .l => .bit4L
  | .f4, .a => .bit4A
  | .f5, .b => .bit5B
  | .f5, .c => .bit5C
  | .f5, .d => .bit5D
  | .f5, .e => .bit5E
  | .f5, .h => .bit5H
  | .f5, .l => .bit5L
  | .f5, .a => .bit5A
  | .f6, .b => .bit6B
  | .f6, .c => .bit6C
  | .f6, .d => .bit6D
  | .f6, .e => .bit6E
  | .f6, .h => .bit6H
  | .f6, .l => .bit6L
  | .f6, .a => .bit6A
  | .f7, .b => .bit7B
  | .f7, .c => .bit7C
  | .f7, .d => .bit7D
  | .f7, .e => .bit7E
  | .f7, .h => .bit7H
  | .f7, .l => .bit7L
  | .f7, .a => .bit7A

/-- `BIT b,[HL]` (R387). -/
def instrBitAtHl : Field3 → Instr
  | .f0 => .bit0AtHl
  | .f1 => .bit1AtHl
  | .f2 => .bit2AtHl
  | .f3 => .bit3AtHl
  | .f4 => .bit4AtHl
  | .f5 => .bit5AtHl
  | .f6 => .bit6AtHl
  | .f7 => .bit7AtHl

/-- `RES b,r8` (R388). -/
def instrResR : Field3 → Reg8 → Instr
  | .f0, .b => .res0B
  | .f0, .c => .res0C
  | .f0, .d => .res0D
  | .f0, .e => .res0E
  | .f0, .h => .res0H
  | .f0, .l => .res0L
  | .f0, .a => .res0A
  | .f1, .b => .res1B
  | .f1, .c => .res1C
  | .f1, .d => .res1D
  | .f1, .e => .res1E
  | .f1, .h => .res1H
  | .f1, .l => .res1L
  | .f1, .a => .res1A
  | .f2, .b => .res2B
  | .f2, .c => .res2C
  | .f2, .d => .res2D
  | .f2, .e => .res2E
  | .f2, .h => .res2H
  | .f2, .l => .res2L
  | .f2, .a => .res2A
  | .f3, .b => .res3B
  | .f3, .c => .res3C
  | .f3, .d => .res3D
  | .f3, .e => .res3E
  | .f3, .h => .res3H
  | .f3, .l => .res3L
  | .f3, .a => .res3A
  | .f4, .b => .res4B
  | .f4, .c => .res4C
  | .f4, .d => .res4D
  | .f4, .e => .res4E
  | .f4, .h => .res4H
  | .f4, .l => .res4L
  | .f4, .a => .res4A
  | .f5, .b => .res5B
  | .f5, .c => .res5C
  | .f5, .d => .res5D
  | .f5, .e => .res5E
  | .f5, .h => .res5H
  | .f5, .l => .res5L
  | .f5, .a => .res5A
  | .f6, .b => .res6B
  | .f6, .c => .res6C
  | .f6, .d => .res6D
  | .f6, .e => .res6E
  | .f6, .h => .res6H
  | .f6, .l => .res6L
  | .f6, .a => .res6A
  | .f7, .b => .res7B
  | .f7, .c => .res7C
  | .f7, .d => .res7D
  | .f7, .e => .res7E
  | .f7, .h => .res7H
  | .f7, .l => .res7L
  | .f7, .a => .res7A

/-- `RES b,[HL]` (R389). -/
def instrResAtHl : Field3 → Instr
  | .f0 => .res0AtHl
  | .f1 => .res1AtHl
  | .f2 => .res2AtHl
  | .f3 => .res3AtHl
  | .f4 => .res4AtHl
  | .f5 => .res5AtHl
  | .f6 => .res6AtHl
  | .f7 => .res7AtHl

/-- `SET b,r8` (R390). -/
def instrSetR : Field3 → Reg8 → Instr
  | .f0, .b => .set0B
  | .f0, .c => .set0C
  | .f0, .d => .set0D
  | .f0, .e => .set0E
  | .f0, .h => .set0H
  | .f0, .l => .set0L
  | .f0, .a => .set0A
  | .f1, .b => .set1B
  | .f1, .c => .set1C
  | .f1, .d => .set1D
  | .f1, .e => .set1E
  | .f1, .h => .set1H
  | .f1, .l => .set1L
  | .f1, .a => .set1A
  | .f2, .b => .set2B
  | .f2, .c => .set2C
  | .f2, .d => .set2D
  | .f2, .e => .set2E
  | .f2, .h => .set2H
  | .f2, .l => .set2L
  | .f2, .a => .set2A
  | .f3, .b => .set3B
  | .f3, .c => .set3C
  | .f3, .d => .set3D
  | .f3, .e => .set3E
  | .f3, .h => .set3H
  | .f3, .l => .set3L
  | .f3, .a => .set3A
  | .f4, .b => .set4B
  | .f4, .c => .set4C
  | .f4, .d => .set4D
  | .f4, .e => .set4E
  | .f4, .h => .set4H
  | .f4, .l => .set4L
  | .f4, .a => .set4A
  | .f5, .b => .set5B
  | .f5, .c => .set5C
  | .f5, .d => .set5D
  | .f5, .e => .set5E
  | .f5, .h => .set5H
  | .f5, .l => .set5L
  | .f5, .a => .set5A
  | .f6, .b => .set6B
  | .f6, .c => .set6C
  | .f6, .d => .set6D
  | .f6, .e => .set6E
  | .f6, .h => .set6H
  | .f6, .l => .set6L
  | .f6, .a => .set6A
  | .f7, .b => .set7B
  | .f7, .c => .set7C
  | .f7, .d => .set7D
  | .f7, .e => .set7E
  | .f7, .h => .set7H
  | .f7, .l => .set7L
  | .f7, .a => .set7A

/-- `SET b,[HL]` (R391). -/
def instrSetAtHl : Field3 → Instr
  | .f0 => .set0AtHl
  | .f1 => .set1AtHl
  | .f2 => .set2AtHl
  | .f3 => .set3AtHl
  | .f4 => .set4AtHl
  | .f5 => .set5AtHl
  | .f6 => .set6AtHl
  | .f7 => .set7AtHl

/-! ### Fields of an opcode byte (R102, R103) -/

/-- op[7:6]: the block of a primary byte, the group of a CB second byte. -/
def opBlock (op : Byte) : Field2 := field2 (op.extractLsb' 6 2)

/-- op[5:3]. -/
def opY (op : Byte) : Field3 := field3 (op.extractLsb' 3 3)

/-- op[2:0]. -/
def opZ (op : Byte) : Field3 := field3 (op.extractLsb' 0 3)

/-- op[5:4]. -/
def opP (op : Byte) : Field2 := field2 (op.extractLsb' 4 2)

/-- op[3]. -/
def opQ (op : Byte) : Bool := op.getLsbD 3

/-- op[4:3]. -/
def opCc (op : Byte) : Field2 := field2 (op.extractLsb' 3 2)

/-! ### The opcode maps -/

/-- What a primary opcode byte selects: an instruction, and which bytes of the stream it still takes (R100, R101). -/
inductive Row where
  /-- Format P1: the opcode byte alone. -/
  | plain (i : Instr)
  /-- STOP: a second byte follows that is skipped, not read (R101, R230). -/
  | skipping (i : Instr)
  /-- Format P2: one immediate byte. -/
  | imm8 (f : Byte → Instr)
  /-- Format P3: two immediate bytes, low byte first (R111). -/
  | imm16 (f : Word → Instr)
  /-- 0xCB: a second byte selects a row of the CB map (R113, R132). -/
  | cbEscape

/-- Block 0 (R121). -/
def block0Row (op : Byte) : Row :=
  match opZ op with
  | .f0 =>
    match opY op with
    | .f0 => .plain .nop
    | .f1 => .imm16 .ldAtN16Sp
    | .f2 => .skipping .stop
    | .f3 => .imm8 .jrE8
    | .f4 | .f5 | .f6 | .f7 => .imm8 (instrJrCc (condTable (opCc op)))
  | .f1 =>
    match opQ op with
    | false => .imm16 (instrLdR16N16 (r16Table (opP op)))
    | true => .plain (instrAddHl (r16Table (opP op)))
  | .f2 =>
    match opQ op with
    | false => .plain (instrLdAtR16memA (r16memTable (opP op)))
    | true => .plain (instrLdAAtR16mem (r16memTable (opP op)))
  | .f3 =>
    match opQ op with
    | false => .plain (instrIncR16 (r16Table (opP op)))
    | true => .plain (instrDecR16 (r16Table (opP op)))
  | .f4 =>
    match r8Table (opY op) with
    | .reg r => .plain (instrIncR r)
    | .atHl => .plain .incAtHl
  | .f5 =>
    match r8Table (opY op) with
    | .reg r => .plain (instrDecR r)
    | .atHl => .plain .decAtHl
  | .f6 =>
    match r8Table (opY op) with
    | .reg r => .imm8 (instrLdRN8 r)
    | .atHl => .imm8 .ldAtHlN8
  | .f7 =>
    match opY op with
    | .f0 => .plain .rlca
    | .f1 => .plain .rrca
    | .f2 => .plain .rla
    | .f3 => .plain .rra
    | .f4 => .plain .daa
    | .f5 => .plain .cpl
    | .f6 => .plain .scf
    | .f7 => .plain .ccf

/-- Block 1 (R122): "except opcode `0x76` which is `HALT`". -/
def block1Row (op : Byte) : Row :=
  match r8Table (opY op), r8Table (opZ op) with
  | .reg dst, .reg src => .plain (instrLdRR dst src)
  | .reg dst, .atHl => .plain (instrLdRAtHl dst)
  | .atHl, .reg src => .plain (instrLdAtHlR src)
  | .atHl, .atHl => .plain .halt

/-- Block 2 (R123). -/
def block2Row (op : Byte) : Row :=
  match r8Table (opZ op) with
  | .reg src => .plain (instrAluR (aluTable (opY op)) src)
  | .atHl => .plain (instrAluAtHl (aluTable (opY op)))

/-- Block 3 (R124), with the 11 illegal bytes (R130). -/
def block3Row (op : Byte) : Row :=
  match opZ op with
  | .f0 =>
    match opY op with
    | .f0 | .f1 | .f2 | .f3 => .plain (instrRetCc (condTable (opCc op)))
    | .f4 => .imm8 .ldhAtN8A
    | .f5 => .imm8 .addSpE8
    | .f6 => .imm8 .ldhAAtN8
    | .f7 => .imm8 .ldHlSpE8
  | .f1 =>
    match opQ op, opP op with
    | false, p => .plain (instrPop (r16stkTable p))
    | true, .f0 => .plain .ret
    | true, .f1 => .plain .reti
    | true, .f2 => .plain .jpHl
    | true, .f3 => .plain .ldSpHl
  | .f2 =>
    match opY op with
    | .f0 | .f1 | .f2 | .f3 => .imm16 (instrJpCc (condTable (opCc op)))
    | .f4 => .plain .ldhAtCA
    | .f5 => .imm16 .ldAtN16A
    | .f6 => .plain .ldhAAtC
    | .f7 => .imm16 .ldAAtN16
  | .f3 =>
    match opY op with
    | .f0 => .imm16 .jpN16
    | .f1 => .cbEscape
    | .f2 => .plain (instrIllegal .d3)
    | .f3 => .plain (instrIllegal .db)
    | .f4 => .plain (instrIllegal .e3)
    | .f5 => .plain (instrIllegal .eb)
    | .f6 => .plain .di
    | .f7 => .plain .ei
  | .f4 =>
    match opY op with
    | .f0 | .f1 | .f2 | .f3 => .imm16 (instrCallCc (condTable (opCc op)))
    | .f4 => .plain (instrIllegal .e4)
    | .f5 => .plain (instrIllegal .ec)
    | .f6 => .plain (instrIllegal .f4)
    | .f7 => .plain (instrIllegal .fc)
  | .f5 =>
    match opQ op, opP op with
    | false, p => .plain (instrPush (r16stkTable p))
    | true, .f0 => .imm16 .callN16
    | true, .f1 => .plain (instrIllegal .dd)
    | true, .f2 => .plain (instrIllegal .ed)
    | true, .f3 => .plain (instrIllegal .fd)
  | .f6 => .imm8 (instrAluN8 (aluTable (opY op)))
  | .f7 => .plain (instrRst (opY op))

/-- The primary opcode map (R120): every byte selects exactly one row (R113). -/
def primaryRow (op : Byte) : Row :=
  match opBlock op with
  | .f0 => block0Row op
  | .f1 => block1Row op
  | .f2 => block2Row op
  | .f3 => block3Row op

/-- The CB opcode map (R103, R125): all 256 second bytes are defined. -/
def cbInstr (op2 : Byte) : Instr :=
  match opBlock op2, r8Table (opZ op2) with
  | .f0, .reg r => instrRotR (rotTable (opY op2)) r
  | .f0, .atHl => instrRotAtHl (rotTable (opY op2))
  | .f1, .reg r => instrBitR (opY op2) r
  | .f1, .atHl => instrBitAtHl (opY op2)
  | .f2, .reg r => instrResR (opY op2) r
  | .f2, .atHl => instrResAtHl (opY op2)
  | .f3, .reg r => instrSetR (opY op2) r
  | .f3, .atHl => instrSetAtHl (opY op2)

/-! ### The decoder -/

/-- What the decoder answers on a list of bytes. The two rejections concern a list that ends too early: "decoding never
fails for any of the 256×2 byte combinations" (R113). -/
inductive Decoded where
  /-- The instruction at the head of the list, and the bytes after it. -/
  | instr (i : Instr) (rest : List Byte)
  /-- Rejected: there is no byte to decode. -/
  | noByte
  /-- Rejected: the list ends inside the instruction's immediate bytes. -/
  | missingImmediate
deriving DecidableEq, Repr

/-- The decoder (R113), total on lists of bytes. A lone 0xCB with nothing after it is the row `PREFIX CB` (log 12). -/
def decode : List Byte → Decoded
  | [] => .noByte
  | op :: rest =>
    match primaryRow op with
    | .plain i => .instr i rest
    | .skipping i => .instr i rest.tail
    | .imm8 f =>
      match rest with
      | v :: after => .instr (f v) after
      | [] => .missingImmediate
    | .imm16 f =>
      match rest with
      | lo :: hi :: after => .instr (f (wordOf hi lo)) after
      | _ => .missingImmediate
    | .cbEscape =>
      match rest with
      | op2 :: after => .instr (cbInstr op2) after
      | [] => .instr .prefixCb []

/-! ### The encoder -/

/-- The bytes of an instruction, written from the opcode maps (R120, R125) and the formats (R100): immediates follow
the opcode, an n16 low byte first. STOP's skipped second byte is written as 0x00 (log 17). -/
def encode (i : Instr) : List Byte :=
  match i with
  | .nop => [0x00#8]
  | .ldBcN16 n16 => [0x01#8, loByte n16, hiByte n16]
  | .ldAtBcA => [0x02#8]
  | .incBc => [0x03#8]
  | .incB => [0x04#8]
  | .decB => [0x05#8]
  | .ldBN8 n8 => [0x06#8, n8]
  | .rlca => [0x07#8]
  | .ldAtN16Sp n16 => [0x08#8, loByte n16, hiByte n16]
  | .addHlBc => [0x09#8]
  | .ldAAtBc => [0x0A#8]
  | .decBc => [0x0B#8]
  | .incC => [0x0C#8]
  | .decC => [0x0D#8]
  | .ldCN8 n8 => [0x0E#8, n8]
  | .rrca => [0x0F#8]
  | .stop => [0x10#8, 0x00#8]
  | .ldDeN16 n16 => [0x11#8, loByte n16, hiByte n16]
  | .ldAtDeA => [0x12#8]
  | .incDe => [0x13#8]
  | .incD => [0x14#8]
  | .decD => [0x15#8]
  | .ldDN8 n8 => [0x16#8, n8]
  | .rla => [0x17#8]
  | .jrE8 e8 => [0x18#8, e8]
  | .addHlDe => [0x19#8]
  | .ldAAtDe => [0x1A#8]
  | .decDe => [0x1B#8]
  | .incE => [0x1C#8]
  | .decE => [0x1D#8]
  | .ldEN8 n8 => [0x1E#8, n8]
  | .rra => [0x1F#8]
  | .jrNzE8 e8 => [0x20#8, e8]
  | .ldHlN16 n16 => [0x21#8, loByte n16, hiByte n16]
  | .ldAtHlIncA => [0x22#8]
  | .incHl => [0x23#8]
  | .incH => [0x24#8]
  | .decH => [0x25#8]
  | .ldHN8 n8 => [0x26#8, n8]
  | .daa => [0x27#8]
  | .jrZE8 e8 => [0x28#8, e8]
  | .addHlHl => [0x29#8]
  | .ldAAtHlInc => [0x2A#8]
  | .decHl => [0x2B#8]
  | .incL => [0x2C#8]
  | .decL => [0x2D#8]
  | .ldLN8 n8 => [0x2E#8, n8]
  | .cpl => [0x2F#8]
  | .jrNcE8 e8 => [0x30#8, e8]
  | .ldSpN16 n16 => [0x31#8, loByte n16, hiByte n16]
  | .ldAtHlDecA => [0x32#8]
  | .incSp => [0x33#8]
  | .incAtHl => [0x34#8]
  | .decAtHl => [0x35#8]
  | .ldAtHlN8 n8 => [0x36#8, n8]
  | .scf => [0x37#8]
  | .jrCE8 e8 => [0x38#8, e8]
  | .addHlSp => [0x39#8]
  | .ldAAtHlDec => [0x3A#8]
  | .decSp => [0x3B#8]
  | .incA => [0x3C#8]
  | .decA => [0x3D#8]
  | .ldAN8 n8 => [0x3E#8, n8]
  | .ccf => [0x3F#8]
  | .ldBB => [0x40#8]
  | .ldBC => [0x41#8]
  | .ldBD => [0x42#8]
  | .ldBE => [0x43#8]
  | .ldBH => [0x44#8]
  | .ldBL => [0x45#8]
  | .ldBAtHl => [0x46#8]
  | .ldBA => [0x47#8]
  | .ldCB => [0x48#8]
  | .ldCC => [0x49#8]
  | .ldCD => [0x4A#8]
  | .ldCE => [0x4B#8]
  | .ldCH => [0x4C#8]
  | .ldCL => [0x4D#8]
  | .ldCAtHl => [0x4E#8]
  | .ldCA => [0x4F#8]
  | .ldDB => [0x50#8]
  | .ldDC => [0x51#8]
  | .ldDD => [0x52#8]
  | .ldDE => [0x53#8]
  | .ldDH => [0x54#8]
  | .ldDL => [0x55#8]
  | .ldDAtHl => [0x56#8]
  | .ldDA => [0x57#8]
  | .ldEB => [0x58#8]
  | .ldEC => [0x59#8]
  | .ldED => [0x5A#8]
  | .ldEE => [0x5B#8]
  | .ldEH => [0x5C#8]
  | .ldEL => [0x5D#8]
  | .ldEAtHl => [0x5E#8]
  | .ldEA => [0x5F#8]
  | .ldHB => [0x60#8]
  | .ldHC => [0x61#8]
  | .ldHD => [0x62#8]
  | .ldHE => [0x63#8]
  | .ldHH => [0x64#8]
  | .ldHL => [0x65#8]
  | .ldHAtHl => [0x66#8]
  | .ldHA => [0x67#8]
  | .ldLB => [0x68#8]
  | .ldLC => [0x69#8]
  | .ldLD => [0x6A#8]
  | .ldLE => [0x6B#8]
  | .ldLH => [0x6C#8]
  | .ldLL => [0x6D#8]
  | .ldLAtHl => [0x6E#8]
  | .ldLA => [0x6F#8]
  | .ldAtHlB => [0x70#8]
  | .ldAtHlC => [0x71#8]
  | .ldAtHlD => [0x72#8]
  | .ldAtHlE => [0x73#8]
  | .ldAtHlH => [0x74#8]
  | .ldAtHlL => [0x75#8]
  | .halt => [0x76#8]
  | .ldAtHlA => [0x77#8]
  | .ldAB => [0x78#8]
  | .ldAC => [0x79#8]
  | .ldAD => [0x7A#8]
  | .ldAE => [0x7B#8]
  | .ldAH => [0x7C#8]
  | .ldAL => [0x7D#8]
  | .ldAAtHl => [0x7E#8]
  | .ldAA => [0x7F#8]
  | .addAB => [0x80#8]
  | .addAC => [0x81#8]
  | .addAD => [0x82#8]
  | .addAE => [0x83#8]
  | .addAH => [0x84#8]
  | .addAL => [0x85#8]
  | .addAAtHl => [0x86#8]
  | .addAA => [0x87#8]
  | .adcAB => [0x88#8]
  | .adcAC => [0x89#8]
  | .adcAD => [0x8A#8]
  | .adcAE => [0x8B#8]
  | .adcAH => [0x8C#8]
  | .adcAL => [0x8D#8]
  | .adcAAtHl => [0x8E#8]
  | .adcAA => [0x8F#8]
  | .subAB => [0x90#8]
  | .subAC => [0x91#8]
  | .subAD => [0x92#8]
  | .subAE => [0x93#8]
  | .subAH => [0x94#8]
  | .subAL => [0x95#8]
  | .subAAtHl => [0x96#8]
  | .subAA => [0x97#8]
  | .sbcAB => [0x98#8]
  | .sbcAC => [0x99#8]
  | .sbcAD => [0x9A#8]
  | .sbcAE => [0x9B#8]
  | .sbcAH => [0x9C#8]
  | .sbcAL => [0x9D#8]
  | .sbcAAtHl => [0x9E#8]
  | .sbcAA => [0x9F#8]
  | .andAB => [0xA0#8]
  | .andAC => [0xA1#8]
  | .andAD => [0xA2#8]
  | .andAE => [0xA3#8]
  | .andAH => [0xA4#8]
  | .andAL => [0xA5#8]
  | .andAAtHl => [0xA6#8]
  | .andAA => [0xA7#8]
  | .xorAB => [0xA8#8]
  | .xorAC => [0xA9#8]
  | .xorAD => [0xAA#8]
  | .xorAE => [0xAB#8]
  | .xorAH => [0xAC#8]
  | .xorAL => [0xAD#8]
  | .xorAAtHl => [0xAE#8]
  | .xorAA => [0xAF#8]
  | .orAB => [0xB0#8]
  | .orAC => [0xB1#8]
  | .orAD => [0xB2#8]
  | .orAE => [0xB3#8]
  | .orAH => [0xB4#8]
  | .orAL => [0xB5#8]
  | .orAAtHl => [0xB6#8]
  | .orAA => [0xB7#8]
  | .cpAB => [0xB8#8]
  | .cpAC => [0xB9#8]
  | .cpAD => [0xBA#8]
  | .cpAE => [0xBB#8]
  | .cpAH => [0xBC#8]
  | .cpAL => [0xBD#8]
  | .cpAAtHl => [0xBE#8]
  | .cpAA => [0xBF#8]
  | .retNz => [0xC0#8]
  | .popBc => [0xC1#8]
  | .jpNzN16 n16 => [0xC2#8, loByte n16, hiByte n16]
  | .jpN16 n16 => [0xC3#8, loByte n16, hiByte n16]
  | .callNzN16 n16 => [0xC4#8, loByte n16, hiByte n16]
  | .pushBc => [0xC5#8]
  | .addAN8 n8 => [0xC6#8, n8]
  | .rst00 => [0xC7#8]
  | .retZ => [0xC8#8]
  | .ret => [0xC9#8]
  | .jpZN16 n16 => [0xCA#8, loByte n16, hiByte n16]
  | .prefixCb => [0xCB#8]
  | .callZN16 n16 => [0xCC#8, loByte n16, hiByte n16]
  | .callN16 n16 => [0xCD#8, loByte n16, hiByte n16]
  | .adcAN8 n8 => [0xCE#8, n8]
  | .rst08 => [0xCF#8]
  | .retNc => [0xD0#8]
  | .popDe => [0xD1#8]
  | .jpNcN16 n16 => [0xD2#8, loByte n16, hiByte n16]
  | .illegalD3 => [0xD3#8]
  | .callNcN16 n16 => [0xD4#8, loByte n16, hiByte n16]
  | .pushDe => [0xD5#8]
  | .subAN8 n8 => [0xD6#8, n8]
  | .rst10 => [0xD7#8]
  | .retC => [0xD8#8]
  | .reti => [0xD9#8]
  | .jpCN16 n16 => [0xDA#8, loByte n16, hiByte n16]
  | .illegalDB => [0xDB#8]
  | .callCN16 n16 => [0xDC#8, loByte n16, hiByte n16]
  | .illegalDD => [0xDD#8]
  | .sbcAN8 n8 => [0xDE#8, n8]
  | .rst18 => [0xDF#8]
  | .ldhAtN8A n8 => [0xE0#8, n8]
  | .popHl => [0xE1#8]
  | .ldhAtCA => [0xE2#8]
  | .illegalE3 => [0xE3#8]
  | .illegalE4 => [0xE4#8]
  | .pushHl => [0xE5#8]
  | .andAN8 n8 => [0xE6#8, n8]
  | .rst20 => [0xE7#8]
  | .addSpE8 e8 => [0xE8#8, e8]
  | .jpHl => [0xE9#8]
  | .ldAtN16A n16 => [0xEA#8, loByte n16, hiByte n16]
  | .illegalEB => [0xEB#8]
  | .illegalEC => [0xEC#8]
  | .illegalED => [0xED#8]
  | .xorAN8 n8 => [0xEE#8, n8]
  | .rst28 => [0xEF#8]
  | .ldhAAtN8 n8 => [0xF0#8, n8]
  | .popAf => [0xF1#8]
  | .ldhAAtC => [0xF2#8]
  | .di => [0xF3#8]
  | .illegalF4 => [0xF4#8]
  | .pushAf => [0xF5#8]
  | .orAN8 n8 => [0xF6#8, n8]
  | .rst30 => [0xF7#8]
  | .ldHlSpE8 e8 => [0xF8#8, e8]
  | .ldSpHl => [0xF9#8]
  | .ldAAtN16 n16 => [0xFA#8, loByte n16, hiByte n16]
  | .ei => [0xFB#8]
  | .illegalFC => [0xFC#8]
  | .illegalFD => [0xFD#8]
  | .cpAN8 n8 => [0xFE#8, n8]
  | .rst38 => [0xFF#8]
  | .rlcB => [0xCB#8, 0x00#8]
  | .rlcC => [0xCB#8, 0x01#8]
  | .rlcD => [0xCB#8, 0x02#8]
  | .rlcE => [0xCB#8, 0x03#8]
  | .rlcH => [0xCB#8, 0x04#8]
  | .rlcL => [0xCB#8, 0x05#8]
  | .rlcAtHl => [0xCB#8, 0x06#8]
  | .rlcA => [0xCB#8, 0x07#8]
  | .rrcB => [0xCB#8, 0x08#8]
  | .rrcC => [0xCB#8, 0x09#8]
  | .rrcD => [0xCB#8, 0x0A#8]
  | .rrcE => [0xCB#8, 0x0B#8]
  | .rrcH => [0xCB#8, 0x0C#8]
  | .rrcL => [0xCB#8, 0x0D#8]
  | .rrcAtHl => [0xCB#8, 0x0E#8]
  | .rrcA => [0xCB#8, 0x0F#8]
  | .rlB => [0xCB#8, 0x10#8]
  | .rlC => [0xCB#8, 0x11#8]
  | .rlD => [0xCB#8, 0x12#8]
  | .rlE => [0xCB#8, 0x13#8]
  | .rlH => [0xCB#8, 0x14#8]
  | .rlL => [0xCB#8, 0x15#8]
  | .rlAtHl => [0xCB#8, 0x16#8]
  | .rlA => [0xCB#8, 0x17#8]
  | .rrB => [0xCB#8, 0x18#8]
  | .rrC => [0xCB#8, 0x19#8]
  | .rrD => [0xCB#8, 0x1A#8]
  | .rrE => [0xCB#8, 0x1B#8]
  | .rrH => [0xCB#8, 0x1C#8]
  | .rrL => [0xCB#8, 0x1D#8]
  | .rrAtHl => [0xCB#8, 0x1E#8]
  | .rrA => [0xCB#8, 0x1F#8]
  | .slaB => [0xCB#8, 0x20#8]
  | .slaC => [0xCB#8, 0x21#8]
  | .slaD => [0xCB#8, 0x22#8]
  | .slaE => [0xCB#8, 0x23#8]
  | .slaH => [0xCB#8, 0x24#8]
  | .slaL => [0xCB#8, 0x25#8]
  | .slaAtHl => [0xCB#8, 0x26#8]
  | .slaA => [0xCB#8, 0x27#8]
  | .sraB => [0xCB#8, 0x28#8]
  | .sraC => [0xCB#8, 0x29#8]
  | .sraD => [0xCB#8, 0x2A#8]
  | .sraE => [0xCB#8, 0x2B#8]
  | .sraH => [0xCB#8, 0x2C#8]
  | .sraL => [0xCB#8, 0x2D#8]
  | .sraAtHl => [0xCB#8, 0x2E#8]
  | .sraA => [0xCB#8, 0x2F#8]
  | .swapB => [0xCB#8, 0x30#8]
  | .swapC => [0xCB#8, 0x31#8]
  | .swapD => [0xCB#8, 0x32#8]
  | .swapE => [0xCB#8, 0x33#8]
  | .swapH => [0xCB#8, 0x34#8]
  | .swapL => [0xCB#8, 0x35#8]
  | .swapAtHl => [0xCB#8, 0x36#8]
  | .swapA => [0xCB#8, 0x37#8]
  | .srlB => [0xCB#8, 0x38#8]
  | .srlC => [0xCB#8, 0x39#8]
  | .srlD => [0xCB#8, 0x3A#8]
  | .srlE => [0xCB#8, 0x3B#8]
  | .srlH => [0xCB#8, 0x3C#8]
  | .srlL => [0xCB#8, 0x3D#8]
  | .srlAtHl => [0xCB#8, 0x3E#8]
  | .srlA => [0xCB#8, 0x3F#8]
  | .bit0B => [0xCB#8, 0x40#8]
  | .bit0C => [0xCB#8, 0x41#8]
  | .bit0D => [0xCB#8, 0x42#8]
  | .bit0E => [0xCB#8, 0x43#8]
  | .bit0H => [0xCB#8, 0x44#8]
  | .bit0L => [0xCB#8, 0x45#8]
  | .bit0AtHl => [0xCB#8, 0x46#8]
  | .bit0A => [0xCB#8, 0x47#8]
  | .bit1B => [0xCB#8, 0x48#8]
  | .bit1C => [0xCB#8, 0x49#8]
  | .bit1D => [0xCB#8, 0x4A#8]
  | .bit1E => [0xCB#8, 0x4B#8]
  | .bit1H => [0xCB#8, 0x4C#8]
  | .bit1L => [0xCB#8, 0x4D#8]
  | .bit1AtHl => [0xCB#8, 0x4E#8]
  | .bit1A => [0xCB#8, 0x4F#8]
  | .bit2B => [0xCB#8, 0x50#8]
  | .bit2C => [0xCB#8, 0x51#8]
  | .bit2D => [0xCB#8, 0x52#8]
  | .bit2E => [0xCB#8, 0x53#8]
  | .bit2H => [0xCB#8, 0x54#8]
  | .bit2L => [0xCB#8, 0x55#8]
  | .bit2AtHl => [0xCB#8, 0x56#8]
  | .bit2A => [0xCB#8, 0x57#8]
  | .bit3B => [0xCB#8, 0x58#8]
  | .bit3C => [0xCB#8, 0x59#8]
  | .bit3D => [0xCB#8, 0x5A#8]
  | .bit3E => [0xCB#8, 0x5B#8]
  | .bit3H => [0xCB#8, 0x5C#8]
  | .bit3L => [0xCB#8, 0x5D#8]
  | .bit3AtHl => [0xCB#8, 0x5E#8]
  | .bit3A => [0xCB#8, 0x5F#8]
  | .bit4B => [0xCB#8, 0x60#8]
  | .bit4C => [0xCB#8, 0x61#8]
  | .bit4D => [0xCB#8, 0x62#8]
  | .bit4E => [0xCB#8, 0x63#8]
  | .bit4H => [0xCB#8, 0x64#8]
  | .bit4L => [0xCB#8, 0x65#8]
  | .bit4AtHl => [0xCB#8, 0x66#8]
  | .bit4A => [0xCB#8, 0x67#8]
  | .bit5B => [0xCB#8, 0x68#8]
  | .bit5C => [0xCB#8, 0x69#8]
  | .bit5D => [0xCB#8, 0x6A#8]
  | .bit5E => [0xCB#8, 0x6B#8]
  | .bit5H => [0xCB#8, 0x6C#8]
  | .bit5L => [0xCB#8, 0x6D#8]
  | .bit5AtHl => [0xCB#8, 0x6E#8]
  | .bit5A => [0xCB#8, 0x6F#8]
  | .bit6B => [0xCB#8, 0x70#8]
  | .bit6C => [0xCB#8, 0x71#8]
  | .bit6D => [0xCB#8, 0x72#8]
  | .bit6E => [0xCB#8, 0x73#8]
  | .bit6H => [0xCB#8, 0x74#8]
  | .bit6L => [0xCB#8, 0x75#8]
  | .bit6AtHl => [0xCB#8, 0x76#8]
  | .bit6A => [0xCB#8, 0x77#8]
  | .bit7B => [0xCB#8, 0x78#8]
  | .bit7C => [0xCB#8, 0x79#8]
  | .bit7D => [0xCB#8, 0x7A#8]
  | .bit7E => [0xCB#8, 0x7B#8]
  | .bit7H => [0xCB#8, 0x7C#8]
  | .bit7L => [0xCB#8, 0x7D#8]
  | .bit7AtHl => [0xCB#8, 0x7E#8]
  | .bit7A => [0xCB#8, 0x7F#8]
  | .res0B => [0xCB#8, 0x80#8]
  | .res0C => [0xCB#8, 0x81#8]
  | .res0D => [0xCB#8, 0x82#8]
  | .res0E => [0xCB#8, 0x83#8]
  | .res0H => [0xCB#8, 0x84#8]
  | .res0L => [0xCB#8, 0x85#8]
  | .res0AtHl => [0xCB#8, 0x86#8]
  | .res0A => [0xCB#8, 0x87#8]
  | .res1B => [0xCB#8, 0x88#8]
  | .res1C => [0xCB#8, 0x89#8]
  | .res1D => [0xCB#8, 0x8A#8]
  | .res1E => [0xCB#8, 0x8B#8]
  | .res1H => [0xCB#8, 0x8C#8]
  | .res1L => [0xCB#8, 0x8D#8]
  | .res1AtHl => [0xCB#8, 0x8E#8]
  | .res1A => [0xCB#8, 0x8F#8]
  | .res2B => [0xCB#8, 0x90#8]
  | .res2C => [0xCB#8, 0x91#8]
  | .res2D => [0xCB#8, 0x92#8]
  | .res2E => [0xCB#8, 0x93#8]
  | .res2H => [0xCB#8, 0x94#8]
  | .res2L => [0xCB#8, 0x95#8]
  | .res2AtHl => [0xCB#8, 0x96#8]
  | .res2A => [0xCB#8, 0x97#8]
  | .res3B => [0xCB#8, 0x98#8]
  | .res3C => [0xCB#8, 0x99#8]
  | .res3D => [0xCB#8, 0x9A#8]
  | .res3E => [0xCB#8, 0x9B#8]
  | .res3H => [0xCB#8, 0x9C#8]
  | .res3L => [0xCB#8, 0x9D#8]
  | .res3AtHl => [0xCB#8, 0x9E#8]
  | .res3A => [0xCB#8, 0x9F#8]
  | .res4B => [0xCB#8, 0xA0#8]
  | .res4C => [0xCB#8, 0xA1#8]
  | .res4D => [0xCB#8, 0xA2#8]
  | .res4E => [0xCB#8, 0xA3#8]
  | .res4H => [0xCB#8, 0xA4#8]
  | .res4L => [0xCB#8, 0xA5#8]
  | .res4AtHl => [0xCB#8, 0xA6#8]
  | .res4A => [0xCB#8, 0xA7#8]
  | .res5B => [0xCB#8, 0xA8#8]
  | .res5C => [0xCB#8, 0xA9#8]
  | .res5D => [0xCB#8, 0xAA#8]
  | .res5E => [0xCB#8, 0xAB#8]
  | .res5H => [0xCB#8, 0xAC#8]
  | .res5L => [0xCB#8, 0xAD#8]
  | .res5AtHl => [0xCB#8, 0xAE#8]
  | .res5A => [0xCB#8, 0xAF#8]
  | .res6B => [0xCB#8, 0xB0#8]
  | .res6C => [0xCB#8, 0xB1#8]
  | .res6D => [0xCB#8, 0xB2#8]
  | .res6E => [0xCB#8, 0xB3#8]
  | .res6H => [0xCB#8, 0xB4#8]
  | .res6L => [0xCB#8, 0xB5#8]
  | .res6AtHl => [0xCB#8, 0xB6#8]
  | .res6A => [0xCB#8, 0xB7#8]
  | .res7B => [0xCB#8, 0xB8#8]
  | .res7C => [0xCB#8, 0xB9#8]
  | .res7D => [0xCB#8, 0xBA#8]
  | .res7E => [0xCB#8, 0xBB#8]
  | .res7H => [0xCB#8, 0xBC#8]
  | .res7L => [0xCB#8, 0xBD#8]
  | .res7AtHl => [0xCB#8, 0xBE#8]
  | .res7A => [0xCB#8, 0xBF#8]
  | .set0B => [0xCB#8, 0xC0#8]
  | .set0C => [0xCB#8, 0xC1#8]
  | .set0D => [0xCB#8, 0xC2#8]
  | .set0E => [0xCB#8, 0xC3#8]
  | .set0H => [0xCB#8, 0xC4#8]
  | .set0L => [0xCB#8, 0xC5#8]
  | .set0AtHl => [0xCB#8, 0xC6#8]
  | .set0A => [0xCB#8, 0xC7#8]
  | .set1B => [0xCB#8, 0xC8#8]
  | .set1C => [0xCB#8, 0xC9#8]
  | .set1D => [0xCB#8, 0xCA#8]
  | .set1E => [0xCB#8, 0xCB#8]
  | .set1H => [0xCB#8, 0xCC#8]
  | .set1L => [0xCB#8, 0xCD#8]
  | .set1AtHl => [0xCB#8, 0xCE#8]
  | .set1A => [0xCB#8, 0xCF#8]
  | .set2B => [0xCB#8, 0xD0#8]
  | .set2C => [0xCB#8, 0xD1#8]
  | .set2D => [0xCB#8, 0xD2#8]
  | .set2E => [0xCB#8, 0xD3#8]
  | .set2H => [0xCB#8, 0xD4#8]
  | .set2L => [0xCB#8, 0xD5#8]
  | .set2AtHl => [0xCB#8, 0xD6#8]
  | .set2A => [0xCB#8, 0xD7#8]
  | .set3B => [0xCB#8, 0xD8#8]
  | .set3C => [0xCB#8, 0xD9#8]
  | .set3D => [0xCB#8, 0xDA#8]
  | .set3E => [0xCB#8, 0xDB#8]
  | .set3H => [0xCB#8, 0xDC#8]
  | .set3L => [0xCB#8, 0xDD#8]
  | .set3AtHl => [0xCB#8, 0xDE#8]
  | .set3A => [0xCB#8, 0xDF#8]
  | .set4B => [0xCB#8, 0xE0#8]
  | .set4C => [0xCB#8, 0xE1#8]
  | .set4D => [0xCB#8, 0xE2#8]
  | .set4E => [0xCB#8, 0xE3#8]
  | .set4H => [0xCB#8, 0xE4#8]
  | .set4L => [0xCB#8, 0xE5#8]
  | .set4AtHl => [0xCB#8, 0xE6#8]
  | .set4A => [0xCB#8, 0xE7#8]
  | .set5B => [0xCB#8, 0xE8#8]
  | .set5C => [0xCB#8, 0xE9#8]
  | .set5D => [0xCB#8, 0xEA#8]
  | .set5E => [0xCB#8, 0xEB#8]
  | .set5H => [0xCB#8, 0xEC#8]
  | .set5L => [0xCB#8, 0xED#8]
  | .set5AtHl => [0xCB#8, 0xEE#8]
  | .set5A => [0xCB#8, 0xEF#8]
  | .set6B => [0xCB#8, 0xF0#8]
  | .set6C => [0xCB#8, 0xF1#8]
  | .set6D => [0xCB#8, 0xF2#8]
  | .set6E => [0xCB#8, 0xF3#8]
  | .set6H => [0xCB#8, 0xF4#8]
  | .set6L => [0xCB#8, 0xF5#8]
  | .set6AtHl => [0xCB#8, 0xF6#8]
  | .set6A => [0xCB#8, 0xF7#8]
  | .set7B => [0xCB#8, 0xF8#8]
  | .set7C => [0xCB#8, 0xF9#8]
  | .set7D => [0xCB#8, 0xFA#8]
  | .set7E => [0xCB#8, 0xFB#8]
  | .set7H => [0xCB#8, 0xFC#8]
  | .set7L => [0xCB#8, 0xFD#8]
  | .set7AtHl => [0xCB#8, 0xFE#8]
  | .set7A => [0xCB#8, 0xFF#8]

/-- The length in bytes (R101, the `bytes` field of opcode_table.json). -/
def instrLength (i : Instr) : Nat := (encode i).length

/-! ### The opcode table's numbering (log 13) -/

/-- The bytes, first at the lowest address, of the word `w` of `nbits` bits as opcode_table.json numbers it: the first
byte is bits 7..0, later bytes are above it and zero where `w` has none. A 16-bit row of the CB map is numbered there with
0xCB in bits 15..8. -/
def tableBytes (nbits w : Nat) : List Byte :=
  match nbits == 16 && w / 256 % 256 == 0xCB with
  | true => [0xCB#8, BitVec.ofNat 8 w, 0x00#8]
  | false => [BitVec.ofNat 8 w, BitVec.ofNat 8 (w / 256), BitVec.ofNat 8 (w / 65536)]

/-- The instruction the decoder reads from a table word. The row `PREFIX CB` is the byte 0xCB alone: the byte after it
selects another row, so none is supplied (log 12). -/
def decodeTableWord (nbits w : Nat) : Option Instr :=
  let bytes :=
    match nbits == 8 && w % 256 == 0xCB with
    | true => [0xCB#8]
    | false => tableBytes nbits w
  match decode bytes with
  | .instr i _ => some i
  | .noByte => none
  | .missingImmediate => none

end Sys2Proof
end

