-- ==== Sys2Proof/Machine/CbBit.lean ====
section
/-! DEFINITION. CB groups 01, 10 and 11 (45_cb_prefix.md sections 2 to 4): BIT, RES and SET. -/

namespace Sys2Proof.Machine

/-! ### What the rows of these groups share -/

/-- `BIT b,r8` and `BIT b,[HL]` (R386, R387): nothing is written back. -/
def runBit (b : Field3) (o : Operand8) (s : State) : State :=
  let r := s.readOperand8 o
  r.2.applyFlags (bit8 b r.1)

/-- `RES b,r8` and `RES b,[HL]` (R388, R389). -/
def runRes (b : Field3) (o : Operand8) (s : State) : State := s.modifyOperand8 o fun v _ => (res8 b v, keepFlags)

/-- `SET b,r8` and `SET b,[HL]` (R390, R391). -/
def runSet (b : Field3) (o : Operand8) (s : State) : State := s.modifyOperand8 o fun v _ => (set8 b v, keepFlags)

/-! ### The instructions -/

/-- `BIT 0,B`: R386. -/
def execBit0B (s : State) : Result := .next (runBit .f0 (.reg .b) s)

/-- `BIT 0,C`: R386. -/
def execBit0C (s : State) : Result := .next (runBit .f0 (.reg .c) s)

/-- `BIT 0,D`: R386. -/
def execBit0D (s : State) : Result := .next (runBit .f0 (.reg .d) s)

/-- `BIT 0,E`: R386. -/
def execBit0E (s : State) : Result := .next (runBit .f0 (.reg .e) s)

/-- `BIT 0,H`: R386. -/
def execBit0H (s : State) : Result := .next (runBit .f0 (.reg .h) s)

/-- `BIT 0,L`: R386. -/
def execBit0L (s : State) : Result := .next (runBit .f0 (.reg .l) s)

/-- `BIT 0,[HL]`: R387. -/
def execBit0AtHl (s : State) : Result := .next (runBit .f0 .atHl s)

/-- `BIT 0,A`: R386. -/
def execBit0A (s : State) : Result := .next (runBit .f0 (.reg .a) s)

/-- `BIT 1,B`: R386. -/
def execBit1B (s : State) : Result := .next (runBit .f1 (.reg .b) s)

/-- `BIT 1,C`: R386. -/
def execBit1C (s : State) : Result := .next (runBit .f1 (.reg .c) s)

/-- `BIT 1,D`: R386. -/
def execBit1D (s : State) : Result := .next (runBit .f1 (.reg .d) s)

/-- `BIT 1,E`: R386. -/
def execBit1E (s : State) : Result := .next (runBit .f1 (.reg .e) s)

/-- `BIT 1,H`: R386. -/
def execBit1H (s : State) : Result := .next (runBit .f1 (.reg .h) s)

/-- `BIT 1,L`: R386. -/
def execBit1L (s : State) : Result := .next (runBit .f1 (.reg .l) s)

/-- `BIT 1,[HL]`: R387. -/
def execBit1AtHl (s : State) : Result := .next (runBit .f1 .atHl s)

/-- `BIT 1,A`: R386. -/
def execBit1A (s : State) : Result := .next (runBit .f1 (.reg .a) s)

/-- `BIT 2,B`: R386. -/
def execBit2B (s : State) : Result := .next (runBit .f2 (.reg .b) s)

/-- `BIT 2,C`: R386. -/
def execBit2C (s : State) : Result := .next (runBit .f2 (.reg .c) s)

/-- `BIT 2,D`: R386. -/
def execBit2D (s : State) : Result := .next (runBit .f2 (.reg .d) s)

/-- `BIT 2,E`: R386. -/
def execBit2E (s : State) : Result := .next (runBit .f2 (.reg .e) s)

/-- `BIT 2,H`: R386. -/
def execBit2H (s : State) : Result := .next (runBit .f2 (.reg .h) s)

/-- `BIT 2,L`: R386. -/
def execBit2L (s : State) : Result := .next (runBit .f2 (.reg .l) s)

/-- `BIT 2,[HL]`: R387. -/
def execBit2AtHl (s : State) : Result := .next (runBit .f2 .atHl s)

/-- `BIT 2,A`: R386. -/
def execBit2A (s : State) : Result := .next (runBit .f2 (.reg .a) s)

/-- `BIT 3,B`: R386. -/
def execBit3B (s : State) : Result := .next (runBit .f3 (.reg .b) s)

/-- `BIT 3,C`: R386. -/
def execBit3C (s : State) : Result := .next (runBit .f3 (.reg .c) s)

/-- `BIT 3,D`: R386. -/
def execBit3D (s : State) : Result := .next (runBit .f3 (.reg .d) s)

/-- `BIT 3,E`: R386. -/
def execBit3E (s : State) : Result := .next (runBit .f3 (.reg .e) s)

/-- `BIT 3,H`: R386. -/
def execBit3H (s : State) : Result := .next (runBit .f3 (.reg .h) s)

/-- `BIT 3,L`: R386. -/
def execBit3L (s : State) : Result := .next (runBit .f3 (.reg .l) s)

/-- `BIT 3,[HL]`: R387. -/
def execBit3AtHl (s : State) : Result := .next (runBit .f3 .atHl s)

/-- `BIT 3,A`: R386. -/
def execBit3A (s : State) : Result := .next (runBit .f3 (.reg .a) s)

/-- `BIT 4,B`: R386. -/
def execBit4B (s : State) : Result := .next (runBit .f4 (.reg .b) s)

/-- `BIT 4,C`: R386. -/
def execBit4C (s : State) : Result := .next (runBit .f4 (.reg .c) s)

/-- `BIT 4,D`: R386. -/
def execBit4D (s : State) : Result := .next (runBit .f4 (.reg .d) s)

/-- `BIT 4,E`: R386. -/
def execBit4E (s : State) : Result := .next (runBit .f4 (.reg .e) s)

/-- `BIT 4,H`: R386. -/
def execBit4H (s : State) : Result := .next (runBit .f4 (.reg .h) s)

/-- `BIT 4,L`: R386. -/
def execBit4L (s : State) : Result := .next (runBit .f4 (.reg .l) s)

/-- `BIT 4,[HL]`: R387. -/
def execBit4AtHl (s : State) : Result := .next (runBit .f4 .atHl s)

/-- `BIT 4,A`: R386. -/
def execBit4A (s : State) : Result := .next (runBit .f4 (.reg .a) s)

/-- `BIT 5,B`: R386. -/
def execBit5B (s : State) : Result := .next (runBit .f5 (.reg .b) s)

/-- `BIT 5,C`: R386. -/
def execBit5C (s : State) : Result := .next (runBit .f5 (.reg .c) s)

/-- `BIT 5,D`: R386. -/
def execBit5D (s : State) : Result := .next (runBit .f5 (.reg .d) s)

/-- `BIT 5,E`: R386. -/
def execBit5E (s : State) : Result := .next (runBit .f5 (.reg .e) s)

/-- `BIT 5,H`: R386. -/
def execBit5H (s : State) : Result := .next (runBit .f5 (.reg .h) s)

/-- `BIT 5,L`: R386. -/
def execBit5L (s : State) : Result := .next (runBit .f5 (.reg .l) s)

/-- `BIT 5,[HL]`: R387. -/
def execBit5AtHl (s : State) : Result := .next (runBit .f5 .atHl s)

/-- `BIT 5,A`: R386. -/
def execBit5A (s : State) : Result := .next (runBit .f5 (.reg .a) s)

/-- `BIT 6,B`: R386. -/
def execBit6B (s : State) : Result := .next (runBit .f6 (.reg .b) s)

/-- `BIT 6,C`: R386. -/
def execBit6C (s : State) : Result := .next (runBit .f6 (.reg .c) s)

/-- `BIT 6,D`: R386. -/
def execBit6D (s : State) : Result := .next (runBit .f6 (.reg .d) s)

/-- `BIT 6,E`: R386. -/
def execBit6E (s : State) : Result := .next (runBit .f6 (.reg .e) s)

/-- `BIT 6,H`: R386. -/
def execBit6H (s : State) : Result := .next (runBit .f6 (.reg .h) s)

/-- `BIT 6,L`: R386. -/
def execBit6L (s : State) : Result := .next (runBit .f6 (.reg .l) s)

/-- `BIT 6,[HL]`: R387. -/
def execBit6AtHl (s : State) : Result := .next (runBit .f6 .atHl s)

/-- `BIT 6,A`: R386. -/
def execBit6A (s : State) : Result := .next (runBit .f6 (.reg .a) s)

/-- `BIT 7,B`: R386. -/
def execBit7B (s : State) : Result := .next (runBit .f7 (.reg .b) s)

/-- `BIT 7,C`: R386. -/
def execBit7C (s : State) : Result := .next (runBit .f7 (.reg .c) s)

/-- `BIT 7,D`: R386. -/
def execBit7D (s : State) : Result := .next (runBit .f7 (.reg .d) s)

/-- `BIT 7,E`: R386. -/
def execBit7E (s : State) : Result := .next (runBit .f7 (.reg .e) s)

/-- `BIT 7,H`: R386. -/
def execBit7H (s : State) : Result := .next (runBit .f7 (.reg .h) s)

/-- `BIT 7,L`: R386. -/
def execBit7L (s : State) : Result := .next (runBit .f7 (.reg .l) s)

/-- `BIT 7,[HL]`: R387. -/
def execBit7AtHl (s : State) : Result := .next (runBit .f7 .atHl s)

/-- `BIT 7,A`: R386. -/
def execBit7A (s : State) : Result := .next (runBit .f7 (.reg .a) s)

/-- `RES 0,B`: R388. -/
def execRes0B (s : State) : Result := .next (runRes .f0 (.reg .b) s)

/-- `RES 0,C`: R388. -/
def execRes0C (s : State) : Result := .next (runRes .f0 (.reg .c) s)

/-- `RES 0,D`: R388. -/
def execRes0D (s : State) : Result := .next (runRes .f0 (.reg .d) s)

/-- `RES 0,E`: R388. -/
def execRes0E (s : State) : Result := .next (runRes .f0 (.reg .e) s)

/-- `RES 0,H`: R388. -/
def execRes0H (s : State) : Result := .next (runRes .f0 (.reg .h) s)

/-- `RES 0,L`: R388. -/
def execRes0L (s : State) : Result := .next (runRes .f0 (.reg .l) s)

/-- `RES 0,[HL]`: R389. -/
def execRes0AtHl (s : State) : Result := .next (runRes .f0 .atHl s)

/-- `RES 0,A`: R388. -/
def execRes0A (s : State) : Result := .next (runRes .f0 (.reg .a) s)

/-- `RES 1,B`: R388. -/
def execRes1B (s : State) : Result := .next (runRes .f1 (.reg .b) s)

/-- `RES 1,C`: R388. -/
def execRes1C (s : State) : Result := .next (runRes .f1 (.reg .c) s)

/-- `RES 1,D`: R388. -/
def execRes1D (s : State) : Result := .next (runRes .f1 (.reg .d) s)

/-- `RES 1,E`: R388. -/
def execRes1E (s : State) : Result := .next (runRes .f1 (.reg .e) s)

/-- `RES 1,H`: R388. -/
def execRes1H (s : State) : Result := .next (runRes .f1 (.reg .h) s)

/-- `RES 1,L`: R388. -/
def execRes1L (s : State) : Result := .next (runRes .f1 (.reg .l) s)

/-- `RES 1,[HL]`: R389. -/
def execRes1AtHl (s : State) : Result := .next (runRes .f1 .atHl s)

/-- `RES 1,A`: R388. -/
def execRes1A (s : State) : Result := .next (runRes .f1 (.reg .a) s)

/-- `RES 2,B`: R388. -/
def execRes2B (s : State) : Result := .next (runRes .f2 (.reg .b) s)

/-- `RES 2,C`: R388. -/
def execRes2C (s : State) : Result := .next (runRes .f2 (.reg .c) s)

/-- `RES 2,D`: R388. -/
def execRes2D (s : State) : Result := .next (runRes .f2 (.reg .d) s)

/-- `RES 2,E`: R388. -/
def execRes2E (s : State) : Result := .next (runRes .f2 (.reg .e) s)

/-- `RES 2,H`: R388. -/
def execRes2H (s : State) : Result := .next (runRes .f2 (.reg .h) s)

/-- `RES 2,L`: R388. -/
def execRes2L (s : State) : Result := .next (runRes .f2 (.reg .l) s)

/-- `RES 2,[HL]`: R389. -/
def execRes2AtHl (s : State) : Result := .next (runRes .f2 .atHl s)

/-- `RES 2,A`: R388. -/
def execRes2A (s : State) : Result := .next (runRes .f2 (.reg .a) s)

/-- `RES 3,B`: R388. -/
def execRes3B (s : State) : Result := .next (runRes .f3 (.reg .b) s)

/-- `RES 3,C`: R388. -/
def execRes3C (s : State) : Result := .next (runRes .f3 (.reg .c) s)

/-- `RES 3,D`: R388. -/
def execRes3D (s : State) : Result := .next (runRes .f3 (.reg .d) s)

/-- `RES 3,E`: R388. -/
def execRes3E (s : State) : Result := .next (runRes .f3 (.reg .e) s)

/-- `RES 3,H`: R388. -/
def execRes3H (s : State) : Result := .next (runRes .f3 (.reg .h) s)

/-- `RES 3,L`: R388. -/
def execRes3L (s : State) : Result := .next (runRes .f3 (.reg .l) s)

/-- `RES 3,[HL]`: R389. -/
def execRes3AtHl (s : State) : Result := .next (runRes .f3 .atHl s)

/-- `RES 3,A`: R388. -/
def execRes3A (s : State) : Result := .next (runRes .f3 (.reg .a) s)

/-- `RES 4,B`: R388. -/
def execRes4B (s : State) : Result := .next (runRes .f4 (.reg .b) s)

/-- `RES 4,C`: R388. -/
def execRes4C (s : State) : Result := .next (runRes .f4 (.reg .c) s)

/-- `RES 4,D`: R388. -/
def execRes4D (s : State) : Result := .next (runRes .f4 (.reg .d) s)

/-- `RES 4,E`: R388. -/
def execRes4E (s : State) : Result := .next (runRes .f4 (.reg .e) s)

/-- `RES 4,H`: R388. -/
def execRes4H (s : State) : Result := .next (runRes .f4 (.reg .h) s)

/-- `RES 4,L`: R388. -/
def execRes4L (s : State) : Result := .next (runRes .f4 (.reg .l) s)

/-- `RES 4,[HL]`: R389. -/
def execRes4AtHl (s : State) : Result := .next (runRes .f4 .atHl s)

/-- `RES 4,A`: R388. -/
def execRes4A (s : State) : Result := .next (runRes .f4 (.reg .a) s)

/-- `RES 5,B`: R388. -/
def execRes5B (s : State) : Result := .next (runRes .f5 (.reg .b) s)

/-- `RES 5,C`: R388. -/
def execRes5C (s : State) : Result := .next (runRes .f5 (.reg .c) s)

/-- `RES 5,D`: R388. -/
def execRes5D (s : State) : Result := .next (runRes .f5 (.reg .d) s)

/-- `RES 5,E`: R388. -/
def execRes5E (s : State) : Result := .next (runRes .f5 (.reg .e) s)

/-- `RES 5,H`: R388. -/
def execRes5H (s : State) : Result := .next (runRes .f5 (.reg .h) s)

/-- `RES 5,L`: R388. -/
def execRes5L (s : State) : Result := .next (runRes .f5 (.reg .l) s)

/-- `RES 5,[HL]`: R389. -/
def execRes5AtHl (s : State) : Result := .next (runRes .f5 .atHl s)

/-- `RES 5,A`: R388. -/
def execRes5A (s : State) : Result := .next (runRes .f5 (.reg .a) s)

/-- `RES 6,B`: R388. -/
def execRes6B (s : State) : Result := .next (runRes .f6 (.reg .b) s)

/-- `RES 6,C`: R388. -/
def execRes6C (s : State) : Result := .next (runRes .f6 (.reg .c) s)

/-- `RES 6,D`: R388. -/
def execRes6D (s : State) : Result := .next (runRes .f6 (.reg .d) s)

/-- `RES 6,E`: R388. -/
def execRes6E (s : State) : Result := .next (runRes .f6 (.reg .e) s)

/-- `RES 6,H`: R388. -/
def execRes6H (s : State) : Result := .next (runRes .f6 (.reg .h) s)

/-- `RES 6,L`: R388. -/
def execRes6L (s : State) : Result := .next (runRes .f6 (.reg .l) s)

/-- `RES 6,[HL]`: R389. -/
def execRes6AtHl (s : State) : Result := .next (runRes .f6 .atHl s)

/-- `RES 6,A`: R388. -/
def execRes6A (s : State) : Result := .next (runRes .f6 (.reg .a) s)

/-- `RES 7,B`: R388. -/
def execRes7B (s : State) : Result := .next (runRes .f7 (.reg .b) s)

/-- `RES 7,C`: R388. -/
def execRes7C (s : State) : Result := .next (runRes .f7 (.reg .c) s)

/-- `RES 7,D`: R388. -/
def execRes7D (s : State) : Result := .next (runRes .f7 (.reg .d) s)

/-- `RES 7,E`: R388. -/
def execRes7E (s : State) : Result := .next (runRes .f7 (.reg .e) s)

/-- `RES 7,H`: R388. -/
def execRes7H (s : State) : Result := .next (runRes .f7 (.reg .h) s)

/-- `RES 7,L`: R388. -/
def execRes7L (s : State) : Result := .next (runRes .f7 (.reg .l) s)

/-- `RES 7,[HL]`: R389. -/
def execRes7AtHl (s : State) : Result := .next (runRes .f7 .atHl s)

/-- `RES 7,A`: R388. -/
def execRes7A (s : State) : Result := .next (runRes .f7 (.reg .a) s)

/-- `SET 0,B`: R390. -/
def execSet0B (s : State) : Result := .next (runSet .f0 (.reg .b) s)

/-- `SET 0,C`: R390. -/
def execSet0C (s : State) : Result := .next (runSet .f0 (.reg .c) s)

/-- `SET 0,D`: R390. -/
def execSet0D (s : State) : Result := .next (runSet .f0 (.reg .d) s)

/-- `SET 0,E`: R390. -/
def execSet0E (s : State) : Result := .next (runSet .f0 (.reg .e) s)

/-- `SET 0,H`: R390. -/
def execSet0H (s : State) : Result := .next (runSet .f0 (.reg .h) s)

/-- `SET 0,L`: R390. -/
def execSet0L (s : State) : Result := .next (runSet .f0 (.reg .l) s)

/-- `SET 0,[HL]`: R391. -/
def execSet0AtHl (s : State) : Result := .next (runSet .f0 .atHl s)

/-- `SET 0,A`: R390. -/
def execSet0A (s : State) : Result := .next (runSet .f0 (.reg .a) s)

/-- `SET 1,B`: R390. -/
def execSet1B (s : State) : Result := .next (runSet .f1 (.reg .b) s)

/-- `SET 1,C`: R390. -/
def execSet1C (s : State) : Result := .next (runSet .f1 (.reg .c) s)

/-- `SET 1,D`: R390. -/
def execSet1D (s : State) : Result := .next (runSet .f1 (.reg .d) s)

/-- `SET 1,E`: R390. -/
def execSet1E (s : State) : Result := .next (runSet .f1 (.reg .e) s)

/-- `SET 1,H`: R390. -/
def execSet1H (s : State) : Result := .next (runSet .f1 (.reg .h) s)

/-- `SET 1,L`: R390. -/
def execSet1L (s : State) : Result := .next (runSet .f1 (.reg .l) s)

/-- `SET 1,[HL]`: R391. -/
def execSet1AtHl (s : State) : Result := .next (runSet .f1 .atHl s)

/-- `SET 1,A`: R390. -/
def execSet1A (s : State) : Result := .next (runSet .f1 (.reg .a) s)

/-- `SET 2,B`: R390. -/
def execSet2B (s : State) : Result := .next (runSet .f2 (.reg .b) s)

/-- `SET 2,C`: R390. -/
def execSet2C (s : State) : Result := .next (runSet .f2 (.reg .c) s)

/-- `SET 2,D`: R390. -/
def execSet2D (s : State) : Result := .next (runSet .f2 (.reg .d) s)

/-- `SET 2,E`: R390. -/
def execSet2E (s : State) : Result := .next (runSet .f2 (.reg .e) s)

/-- `SET 2,H`: R390. -/
def execSet2H (s : State) : Result := .next (runSet .f2 (.reg .h) s)

/-- `SET 2,L`: R390. -/
def execSet2L (s : State) : Result := .next (runSet .f2 (.reg .l) s)

/-- `SET 2,[HL]`: R391. -/
def execSet2AtHl (s : State) : Result := .next (runSet .f2 .atHl s)

/-- `SET 2,A`: R390. -/
def execSet2A (s : State) : Result := .next (runSet .f2 (.reg .a) s)

/-- `SET 3,B`: R390. -/
def execSet3B (s : State) : Result := .next (runSet .f3 (.reg .b) s)

/-- `SET 3,C`: R390. -/
def execSet3C (s : State) : Result := .next (runSet .f3 (.reg .c) s)

/-- `SET 3,D`: R390. -/
def execSet3D (s : State) : Result := .next (runSet .f3 (.reg .d) s)

/-- `SET 3,E`: R390. -/
def execSet3E (s : State) : Result := .next (runSet .f3 (.reg .e) s)

/-- `SET 3,H`: R390. -/
def execSet3H (s : State) : Result := .next (runSet .f3 (.reg .h) s)

/-- `SET 3,L`: R390. -/
def execSet3L (s : State) : Result := .next (runSet .f3 (.reg .l) s)

/-- `SET 3,[HL]`: R391. -/
def execSet3AtHl (s : State) : Result := .next (runSet .f3 .atHl s)

/-- `SET 3,A`: R390. -/
def execSet3A (s : State) : Result := .next (runSet .f3 (.reg .a) s)

/-- `SET 4,B`: R390. -/
def execSet4B (s : State) : Result := .next (runSet .f4 (.reg .b) s)

/-- `SET 4,C`: R390. -/
def execSet4C (s : State) : Result := .next (runSet .f4 (.reg .c) s)

/-- `SET 4,D`: R390. -/
def execSet4D (s : State) : Result := .next (runSet .f4 (.reg .d) s)

/-- `SET 4,E`: R390. -/
def execSet4E (s : State) : Result := .next (runSet .f4 (.reg .e) s)

/-- `SET 4,H`: R390. -/
def execSet4H (s : State) : Result := .next (runSet .f4 (.reg .h) s)

/-- `SET 4,L`: R390. -/
def execSet4L (s : State) : Result := .next (runSet .f4 (.reg .l) s)

/-- `SET 4,[HL]`: R391. -/
def execSet4AtHl (s : State) : Result := .next (runSet .f4 .atHl s)

/-- `SET 4,A`: R390. -/
def execSet4A (s : State) : Result := .next (runSet .f4 (.reg .a) s)

/-- `SET 5,B`: R390. -/
def execSet5B (s : State) : Result := .next (runSet .f5 (.reg .b) s)

/-- `SET 5,C`: R390. -/
def execSet5C (s : State) : Result := .next (runSet .f5 (.reg .c) s)

/-- `SET 5,D`: R390. -/
def execSet5D (s : State) : Result := .next (runSet .f5 (.reg .d) s)

/-- `SET 5,E`: R390. -/
def execSet5E (s : State) : Result := .next (runSet .f5 (.reg .e) s)

/-- `SET 5,H`: R390. -/
def execSet5H (s : State) : Result := .next (runSet .f5 (.reg .h) s)

/-- `SET 5,L`: R390. -/
def execSet5L (s : State) : Result := .next (runSet .f5 (.reg .l) s)

/-- `SET 5,[HL]`: R391. -/
def execSet5AtHl (s : State) : Result := .next (runSet .f5 .atHl s)

/-- `SET 5,A`: R390. -/
def execSet5A (s : State) : Result := .next (runSet .f5 (.reg .a) s)

/-- `SET 6,B`: R390. -/
def execSet6B (s : State) : Result := .next (runSet .f6 (.reg .b) s)

/-- `SET 6,C`: R390. -/
def execSet6C (s : State) : Result := .next (runSet .f6 (.reg .c) s)

/-- `SET 6,D`: R390. -/
def execSet6D (s : State) : Result := .next (runSet .f6 (.reg .d) s)

/-- `SET 6,E`: R390. -/
def execSet6E (s : State) : Result := .next (runSet .f6 (.reg .e) s)

/-- `SET 6,H`: R390. -/
def execSet6H (s : State) : Result := .next (runSet .f6 (.reg .h) s)

/-- `SET 6,L`: R390. -/
def execSet6L (s : State) : Result := .next (runSet .f6 (.reg .l) s)

/-- `SET 6,[HL]`: R391. -/
def execSet6AtHl (s : State) : Result := .next (runSet .f6 .atHl s)

/-- `SET 6,A`: R390. -/
def execSet6A (s : State) : Result := .next (runSet .f6 (.reg .a) s)

/-- `SET 7,B`: R390. -/
def execSet7B (s : State) : Result := .next (runSet .f7 (.reg .b) s)

/-- `SET 7,C`: R390. -/
def execSet7C (s : State) : Result := .next (runSet .f7 (.reg .c) s)

/-- `SET 7,D`: R390. -/
def execSet7D (s : State) : Result := .next (runSet .f7 (.reg .d) s)

/-- `SET 7,E`: R390. -/
def execSet7E (s : State) : Result := .next (runSet .f7 (.reg .e) s)

/-- `SET 7,H`: R390. -/
def execSet7H (s : State) : Result := .next (runSet .f7 (.reg .h) s)

/-- `SET 7,L`: R390. -/
def execSet7L (s : State) : Result := .next (runSet .f7 (.reg .l) s)

/-- `SET 7,[HL]`: R391. -/
def execSet7AtHl (s : State) : Result := .next (runSet .f7 .atHl s)

/-- `SET 7,A`: R390. -/
def execSet7A (s : State) : Result := .next (runSet .f7 (.reg .a) s)

end Sys2Proof.Machine
end

