-- ==== Sys2Proof/Machine/CbRotate.lean ====
section
/-! DEFINITION. CB group 00 (45_cb_prefix.md section 1): rotates, shifts and SWAP. -/

namespace Sys2Proof.Machine

/-! ### What the rows of this group share -/

/-- `op r8` and `op [HL]` (R370 to R385). -/
def runRot (op : RotOp) (o : Operand8) (s : State) : State := s.modifyOperand8 o fun v f => rot8 op v f.c

/-! ### The instructions -/

/-- `RLC B`: R370. -/
def execRlcB (s : State) : Result := .next (runRot .rlc (.reg .b) s)

/-- `RLC C`: R370. -/
def execRlcC (s : State) : Result := .next (runRot .rlc (.reg .c) s)

/-- `RLC D`: R370. -/
def execRlcD (s : State) : Result := .next (runRot .rlc (.reg .d) s)

/-- `RLC E`: R370. -/
def execRlcE (s : State) : Result := .next (runRot .rlc (.reg .e) s)

/-- `RLC H`: R370. -/
def execRlcH (s : State) : Result := .next (runRot .rlc (.reg .h) s)

/-- `RLC L`: R370. -/
def execRlcL (s : State) : Result := .next (runRot .rlc (.reg .l) s)

/-- `RLC [HL]`: R371. -/
def execRlcAtHl (s : State) : Result := .next (runRot .rlc .atHl s)

/-- `RLC A`: R370. -/
def execRlcA (s : State) : Result := .next (runRot .rlc (.reg .a) s)

/-- `RRC B`: R372. -/
def execRrcB (s : State) : Result := .next (runRot .rrc (.reg .b) s)

/-- `RRC C`: R372. -/
def execRrcC (s : State) : Result := .next (runRot .rrc (.reg .c) s)

/-- `RRC D`: R372. -/
def execRrcD (s : State) : Result := .next (runRot .rrc (.reg .d) s)

/-- `RRC E`: R372. -/
def execRrcE (s : State) : Result := .next (runRot .rrc (.reg .e) s)

/-- `RRC H`: R372. -/
def execRrcH (s : State) : Result := .next (runRot .rrc (.reg .h) s)

/-- `RRC L`: R372. -/
def execRrcL (s : State) : Result := .next (runRot .rrc (.reg .l) s)

/-- `RRC [HL]`: R373. -/
def execRrcAtHl (s : State) : Result := .next (runRot .rrc .atHl s)

/-- `RRC A`: R372. -/
def execRrcA (s : State) : Result := .next (runRot .rrc (.reg .a) s)

/-- `RL B`: R374. -/
def execRlB (s : State) : Result := .next (runRot .rl (.reg .b) s)

/-- `RL C`: R374. -/
def execRlC (s : State) : Result := .next (runRot .rl (.reg .c) s)

/-- `RL D`: R374. -/
def execRlD (s : State) : Result := .next (runRot .rl (.reg .d) s)

/-- `RL E`: R374. -/
def execRlE (s : State) : Result := .next (runRot .rl (.reg .e) s)

/-- `RL H`: R374. -/
def execRlH (s : State) : Result := .next (runRot .rl (.reg .h) s)

/-- `RL L`: R374. -/
def execRlL (s : State) : Result := .next (runRot .rl (.reg .l) s)

/-- `RL [HL]`: R375. -/
def execRlAtHl (s : State) : Result := .next (runRot .rl .atHl s)

/-- `RL A`: R374. -/
def execRlA (s : State) : Result := .next (runRot .rl (.reg .a) s)

/-- `RR B`: R376. -/
def execRrB (s : State) : Result := .next (runRot .rr (.reg .b) s)

/-- `RR C`: R376. -/
def execRrC (s : State) : Result := .next (runRot .rr (.reg .c) s)

/-- `RR D`: R376. -/
def execRrD (s : State) : Result := .next (runRot .rr (.reg .d) s)

/-- `RR E`: R376. -/
def execRrE (s : State) : Result := .next (runRot .rr (.reg .e) s)

/-- `RR H`: R376. -/
def execRrH (s : State) : Result := .next (runRot .rr (.reg .h) s)

/-- `RR L`: R376. -/
def execRrL (s : State) : Result := .next (runRot .rr (.reg .l) s)

/-- `RR [HL]`: R377. -/
def execRrAtHl (s : State) : Result := .next (runRot .rr .atHl s)

/-- `RR A`: R376. -/
def execRrA (s : State) : Result := .next (runRot .rr (.reg .a) s)

/-- `SLA B`: R378. -/
def execSlaB (s : State) : Result := .next (runRot .sla (.reg .b) s)

/-- `SLA C`: R378. -/
def execSlaC (s : State) : Result := .next (runRot .sla (.reg .c) s)

/-- `SLA D`: R378. -/
def execSlaD (s : State) : Result := .next (runRot .sla (.reg .d) s)

/-- `SLA E`: R378. -/
def execSlaE (s : State) : Result := .next (runRot .sla (.reg .e) s)

/-- `SLA H`: R378. -/
def execSlaH (s : State) : Result := .next (runRot .sla (.reg .h) s)

/-- `SLA L`: R378. -/
def execSlaL (s : State) : Result := .next (runRot .sla (.reg .l) s)

/-- `SLA [HL]`: R379. -/
def execSlaAtHl (s : State) : Result := .next (runRot .sla .atHl s)

/-- `SLA A`: R378. -/
def execSlaA (s : State) : Result := .next (runRot .sla (.reg .a) s)

/-- `SRA B`: R380. -/
def execSraB (s : State) : Result := .next (runRot .sra (.reg .b) s)

/-- `SRA C`: R380. -/
def execSraC (s : State) : Result := .next (runRot .sra (.reg .c) s)

/-- `SRA D`: R380. -/
def execSraD (s : State) : Result := .next (runRot .sra (.reg .d) s)

/-- `SRA E`: R380. -/
def execSraE (s : State) : Result := .next (runRot .sra (.reg .e) s)

/-- `SRA H`: R380. -/
def execSraH (s : State) : Result := .next (runRot .sra (.reg .h) s)

/-- `SRA L`: R380. -/
def execSraL (s : State) : Result := .next (runRot .sra (.reg .l) s)

/-- `SRA [HL]`: R381. -/
def execSraAtHl (s : State) : Result := .next (runRot .sra .atHl s)

/-- `SRA A`: R380. -/
def execSraA (s : State) : Result := .next (runRot .sra (.reg .a) s)

/-- `SWAP B`: R382. -/
def execSwapB (s : State) : Result := .next (runRot .swap (.reg .b) s)

/-- `SWAP C`: R382. -/
def execSwapC (s : State) : Result := .next (runRot .swap (.reg .c) s)

/-- `SWAP D`: R382. -/
def execSwapD (s : State) : Result := .next (runRot .swap (.reg .d) s)

/-- `SWAP E`: R382. -/
def execSwapE (s : State) : Result := .next (runRot .swap (.reg .e) s)

/-- `SWAP H`: R382. -/
def execSwapH (s : State) : Result := .next (runRot .swap (.reg .h) s)

/-- `SWAP L`: R382. -/
def execSwapL (s : State) : Result := .next (runRot .swap (.reg .l) s)

/-- `SWAP [HL]`: R383. -/
def execSwapAtHl (s : State) : Result := .next (runRot .swap .atHl s)

/-- `SWAP A`: R382. -/
def execSwapA (s : State) : Result := .next (runRot .swap (.reg .a) s)

/-- `SRL B`: R384. -/
def execSrlB (s : State) : Result := .next (runRot .srl (.reg .b) s)

/-- `SRL C`: R384. -/
def execSrlC (s : State) : Result := .next (runRot .srl (.reg .c) s)

/-- `SRL D`: R384. -/
def execSrlD (s : State) : Result := .next (runRot .srl (.reg .d) s)

/-- `SRL E`: R384. -/
def execSrlE (s : State) : Result := .next (runRot .srl (.reg .e) s)

/-- `SRL H`: R384. -/
def execSrlH (s : State) : Result := .next (runRot .srl (.reg .h) s)

/-- `SRL L`: R384. -/
def execSrlL (s : State) : Result := .next (runRot .srl (.reg .l) s)

/-- `SRL [HL]`: R385. -/
def execSrlAtHl (s : State) : Result := .next (runRot .srl .atHl s)

/-- `SRL A`: R384. -/
def execSrlA (s : State) : Result := .next (runRot .srl (.reg .a) s)

end Sys2Proof.Machine
end

