-- ==== Sys2Proof/Machine/CbPrefix.lean ====
section
/-! DEFINITION. The row `PREFIX CB` (44_block3.md R332): the second byte is fetched and its row of the CB map runs. -/

namespace Sys2Proof.Machine

/-- The rows of CB group 00, by operation and operand (R103, R110). -/
def execCbRotate (op : RotOp) (o : Operand8) (s : State) : Result :=
  match op, o with
  | .rlc, .reg .b => execRlcB s
  | .rlc, .reg .c => execRlcC s
  | .rlc, .reg .d => execRlcD s
  | .rlc, .reg .e => execRlcE s
  | .rlc, .reg .h => execRlcH s
  | .rlc, .reg .l => execRlcL s
  | .rlc, .atHl => execRlcAtHl s
  | .rlc, .reg .a => execRlcA s
  | .rrc, .reg .b => execRrcB s
  | .rrc, .reg .c => execRrcC s
  | .rrc, .reg .d => execRrcD s
  | .rrc, .reg .e => execRrcE s
  | .rrc, .reg .h => execRrcH s
  | .rrc, .reg .l => execRrcL s
  | .rrc, .atHl => execRrcAtHl s
  | .rrc, .reg .a => execRrcA s
  | .rl, .reg .b => execRlB s
  | .rl, .reg .c => execRlC s
  | .rl, .reg .d => execRlD s
  | .rl, .reg .e => execRlE s
  | .rl, .reg .h => execRlH s
  | .rl, .reg .l => execRlL s
  | .rl, .atHl => execRlAtHl s
  | .rl, .reg .a => execRlA s
  | .rr, .reg .b => execRrB s
  | .rr, .reg .c => execRrC s
  | .rr, .reg .d => execRrD s
  | .rr, .reg .e => execRrE s
  | .rr, .reg .h => execRrH s
  | .rr, .reg .l => execRrL s
  | .rr, .atHl => execRrAtHl s
  | .rr, .reg .a => execRrA s
  | .sla, .reg .b => execSlaB s
  | .sla, .reg .c => execSlaC s
  | .sla, .reg .d => execSlaD s
  | .sla, .reg .e => execSlaE s
  | .sla, .reg .h => execSlaH s
  | .sla, .reg .l => execSlaL s
  | .sla, .atHl => execSlaAtHl s
  | .sla, .reg .a => execSlaA s
  | .sra, .reg .b => execSraB s
  | .sra, .reg .c => execSraC s
  | .sra, .reg .d => execSraD s
  | .sra, .reg .e => execSraE s
  | .sra, .reg .h => execSraH s
  | .sra, .reg .l => execSraL s
  | .sra, .atHl => execSraAtHl s
  | .sra, .reg .a => execSraA s
  | .swap, .reg .b => execSwapB s
  | .swap, .reg .c => execSwapC s
  | .swap, .reg .d => execSwapD s
  | .swap, .reg .e => execSwapE s
  | .swap, .reg .h => execSwapH s
  | .swap, .reg .l => execSwapL s
  | .swap, .atHl => execSwapAtHl s
  | .swap, .reg .a => execSwapA s
  | .srl, .reg .b => execSrlB s
  | .srl, .reg .c => execSrlC s
  | .srl, .reg .d => execSrlD s
  | .srl, .reg .e => execSrlE s
  | .srl, .reg .h => execSrlH s
  | .srl, .reg .l => execSrlL s
  | .srl, .atHl => execSrlAtHl s
  | .srl, .reg .a => execSrlA s

/-- The rows of `BIT`, by bit index and operand (R103). -/
def execCbBit (op : Field3) (o : Operand8) (s : State) : Result :=
  match op, o with
  | .f0, .reg .b => execBit0B s
  | .f0, .reg .c => execBit0C s
  | .f0, .reg .d => execBit0D s
  | .f0, .reg .e => execBit0E s
  | .f0, .reg .h => execBit0H s
  | .f0, .reg .l => execBit0L s
  | .f0, .atHl => execBit0AtHl s
  | .f0, .reg .a => execBit0A s
  | .f1, .reg .b => execBit1B s
  | .f1, .reg .c => execBit1C s
  | .f1, .reg .d => execBit1D s
  | .f1, .reg .e => execBit1E s
  | .f1, .reg .h => execBit1H s
  | .f1, .reg .l => execBit1L s
  | .f1, .atHl => execBit1AtHl s
  | .f1, .reg .a => execBit1A s
  | .f2, .reg .b => execBit2B s
  | .f2, .reg .c => execBit2C s
  | .f2, .reg .d => execBit2D s
  | .f2, .reg .e => execBit2E s
  | .f2, .reg .h => execBit2H s
  | .f2, .reg .l => execBit2L s
  | .f2, .atHl => execBit2AtHl s
  | .f2, .reg .a => execBit2A s
  | .f3, .reg .b => execBit3B s
  | .f3, .reg .c => execBit3C s
  | .f3, .reg .d => execBit3D s
  | .f3, .reg .e => execBit3E s
  | .f3, .reg .h => execBit3H s
  | .f3, .reg .l => execBit3L s
  | .f3, .atHl => execBit3AtHl s
  | .f3, .reg .a => execBit3A s
  | .f4, .reg .b => execBit4B s
  | .f4, .reg .c => execBit4C s
  | .f4, .reg .d => execBit4D s
  | .f4, .reg .e => execBit4E s
  | .f4, .reg .h => execBit4H s
  | .f4, .reg .l => execBit4L s
  | .f4, .atHl => execBit4AtHl s
  | .f4, .reg .a => execBit4A s
  | .f5, .reg .b => execBit5B s
  | .f5, .reg .c => execBit5C s
  | .f5, .reg .d => execBit5D s
  | .f5, .reg .e => execBit5E s
  | .f5, .reg .h => execBit5H s
  | .f5, .reg .l => execBit5L s
  | .f5, .atHl => execBit5AtHl s
  | .f5, .reg .a => execBit5A s
  | .f6, .reg .b => execBit6B s
  | .f6, .reg .c => execBit6C s
  | .f6, .reg .d => execBit6D s
  | .f6, .reg .e => execBit6E s
  | .f6, .reg .h => execBit6H s
  | .f6, .reg .l => execBit6L s
  | .f6, .atHl => execBit6AtHl s
  | .f6, .reg .a => execBit6A s
  | .f7, .reg .b => execBit7B s
  | .f7, .reg .c => execBit7C s
  | .f7, .reg .d => execBit7D s
  | .f7, .reg .e => execBit7E s
  | .f7, .reg .h => execBit7H s
  | .f7, .reg .l => execBit7L s
  | .f7, .atHl => execBit7AtHl s
  | .f7, .reg .a => execBit7A s

/-- The rows of `RES`, by bit index and operand (R103). -/
def execCbRes (op : Field3) (o : Operand8) (s : State) : Result :=
  match op, o with
  | .f0, .reg .b => execRes0B s
  | .f0, .reg .c => execRes0C s
  | .f0, .reg .d => execRes0D s
  | .f0, .reg .e => execRes0E s
  | .f0, .reg .h => execRes0H s
  | .f0, .reg .l => execRes0L s
  | .f0, .atHl => execRes0AtHl s
  | .f0, .reg .a => execRes0A s
  | .f1, .reg .b => execRes1B s
  | .f1, .reg .c => execRes1C s
  | .f1, .reg .d => execRes1D s
  | .f1, .reg .e => execRes1E s
  | .f1, .reg .h => execRes1H s
  | .f1, .reg .l => execRes1L s
  | .f1, .atHl => execRes1AtHl s
  | .f1, .reg .a => execRes1A s
  | .f2, .reg .b => execRes2B s
  | .f2, .reg .c => execRes2C s
  | .f2, .reg .d => execRes2D s
  | .f2, .reg .e => execRes2E s
  | .f2, .reg .h => execRes2H s
  | .f2, .reg .l => execRes2L s
  | .f2, .atHl => execRes2AtHl s
  | .f2, .reg .a => execRes2A s
  | .f3, .reg .b => execRes3B s
  | .f3, .reg .c => execRes3C s
  | .f3, .reg .d => execRes3D s
  | .f3, .reg .e => execRes3E s
  | .f3, .reg .h => execRes3H s
  | .f3, .reg .l => execRes3L s
  | .f3, .atHl => execRes3AtHl s
  | .f3, .reg .a => execRes3A s
  | .f4, .reg .b => execRes4B s
  | .f4, .reg .c => execRes4C s
  | .f4, .reg .d => execRes4D s
  | .f4, .reg .e => execRes4E s
  | .f4, .reg .h => execRes4H s
  | .f4, .reg .l => execRes4L s
  | .f4, .atHl => execRes4AtHl s
  | .f4, .reg .a => execRes4A s
  | .f5, .reg .b => execRes5B s
  | .f5, .reg .c => execRes5C s
  | .f5, .reg .d => execRes5D s
  | .f5, .reg .e => execRes5E s
  | .f5, .reg .h => execRes5H s
  | .f5, .reg .l => execRes5L s
  | .f5, .atHl => execRes5AtHl s
  | .f5, .reg .a => execRes5A s
  | .f6, .reg .b => execRes6B s
  | .f6, .reg .c => execRes6C s
  | .f6, .reg .d => execRes6D s
  | .f6, .reg .e => execRes6E s
  | .f6, .reg .h => execRes6H s
  | .f6, .reg .l => execRes6L s
  | .f6, .atHl => execRes6AtHl s
  | .f6, .reg .a => execRes6A s
  | .f7, .reg .b => execRes7B s
  | .f7, .reg .c => execRes7C s
  | .f7, .reg .d => execRes7D s
  | .f7, .reg .e => execRes7E s
  | .f7, .reg .h => execRes7H s
  | .f7, .reg .l => execRes7L s
  | .f7, .atHl => execRes7AtHl s
  | .f7, .reg .a => execRes7A s

/-- The rows of `SET`, by bit index and operand (R103). -/
def execCbSet (op : Field3) (o : Operand8) (s : State) : Result :=
  match op, o with
  | .f0, .reg .b => execSet0B s
  | .f0, .reg .c => execSet0C s
  | .f0, .reg .d => execSet0D s
  | .f0, .reg .e => execSet0E s
  | .f0, .reg .h => execSet0H s
  | .f0, .reg .l => execSet0L s
  | .f0, .atHl => execSet0AtHl s
  | .f0, .reg .a => execSet0A s
  | .f1, .reg .b => execSet1B s
  | .f1, .reg .c => execSet1C s
  | .f1, .reg .d => execSet1D s
  | .f1, .reg .e => execSet1E s
  | .f1, .reg .h => execSet1H s
  | .f1, .reg .l => execSet1L s
  | .f1, .atHl => execSet1AtHl s
  | .f1, .reg .a => execSet1A s
  | .f2, .reg .b => execSet2B s
  | .f2, .reg .c => execSet2C s
  | .f2, .reg .d => execSet2D s
  | .f2, .reg .e => execSet2E s
  | .f2, .reg .h => execSet2H s
  | .f2, .reg .l => execSet2L s
  | .f2, .atHl => execSet2AtHl s
  | .f2, .reg .a => execSet2A s
  | .f3, .reg .b => execSet3B s
  | .f3, .reg .c => execSet3C s
  | .f3, .reg .d => execSet3D s
  | .f3, .reg .e => execSet3E s
  | .f3, .reg .h => execSet3H s
  | .f3, .reg .l => execSet3L s
  | .f3, .atHl => execSet3AtHl s
  | .f3, .reg .a => execSet3A s
  | .f4, .reg .b => execSet4B s
  | .f4, .reg .c => execSet4C s
  | .f4, .reg .d => execSet4D s
  | .f4, .reg .e => execSet4E s
  | .f4, .reg .h => execSet4H s
  | .f4, .reg .l => execSet4L s
  | .f4, .atHl => execSet4AtHl s
  | .f4, .reg .a => execSet4A s
  | .f5, .reg .b => execSet5B s
  | .f5, .reg .c => execSet5C s
  | .f5, .reg .d => execSet5D s
  | .f5, .reg .e => execSet5E s
  | .f5, .reg .h => execSet5H s
  | .f5, .reg .l => execSet5L s
  | .f5, .atHl => execSet5AtHl s
  | .f5, .reg .a => execSet5A s
  | .f6, .reg .b => execSet6B s
  | .f6, .reg .c => execSet6C s
  | .f6, .reg .d => execSet6D s
  | .f6, .reg .e => execSet6E s
  | .f6, .reg .h => execSet6H s
  | .f6, .reg .l => execSet6L s
  | .f6, .atHl => execSet6AtHl s
  | .f6, .reg .a => execSet6A s
  | .f7, .reg .b => execSet7B s
  | .f7, .reg .c => execSet7C s
  | .f7, .reg .d => execSet7D s
  | .f7, .reg .e => execSet7E s
  | .f7, .reg .h => execSet7H s
  | .f7, .reg .l => execSet7L s
  | .f7, .atHl => execSet7AtHl s
  | .f7, .reg .a => execSet7A s

/-- `CB[op2]`: the row the second byte selects (R103, R125). -/
def execCbRow (op2 : Byte) (s : State) : Result :=
  match opBlock op2 with
  | .f0 => execCbRotate (rotTable (opY op2)) (r8Table (opZ op2)) s
  | .f1 => execCbBit (opY op2) (r8Table (opZ op2)) s
  | .f2 => execCbRes (opY op2) (r8Table (opZ op2)) s
  | .f3 => execCbSet (opY op2) (r8Table (opZ op2)) s

/-- `PREFIX CB`: R332. PC is past the 0xCB byte; "the prefix and the second byte are one instruction". -/
def execPrefixCb (s : State) : Result :=
  let r := s.fetch8
  execCbRow r.1 r.2

end Sys2Proof.Machine
end

