-- ==== Sys2Proof/Machine/Fetch.lean ====
section
/-! DEFINITION. Fetching and decoding one instruction from the byte stream (60_exceptions.md R444, R445; 30_encoding.md R113). -/

namespace Sys2Proof.Machine

/-- The opcode fetch (R444): one bus read at PC, which is the opcode's address (10_state.md R54; log 18); PC advances unless the
HALT bug is pending (R59). -/
def State.fetchOpcode (s : State) : Byte × State :=
  let r := s.memRead s.pc
  let s1 := r.2.setOpcodePc s.pc
  if s1.params.haltBug && s1.haltBugPending then (r.1, s1.setHaltBugPending false)
  else (r.1, s1.setPc (s1.pc + 1))

/-- The instruction at PC and the state after its bytes are fetched: every instruction fetches all its bytes before it does
anything else (20_memory.md R89; log 16). STOP's second byte is not read (41_block0.md R230). Right after a buggy HALT the bytes after the
opcode are read from the PC the opcode fetch left (R444), which is the opcode's: the second byte of a CB prefix is then 0xCB itself
(DESIGN CHOICE, log 26). -/
def State.fetchInstr (s : State) : Instr × State :=
  let op := s.fetchOpcode
  match primaryRow op.1 with
  | .plain i => (i, op.2)
  | .skipping i => (i, op.2)
  | .imm8 f => (f op.2.fetch8.1, op.2.fetch8.2)
  | .imm16 f => (f op.2.fetch16.1, op.2.fetch16.2)
  | .cbEscape => (cbInstr op.2.fetch8.1, op.2.fetch8.2)

/-! ### Placing an instruction where the next step fetches it (log 15) -/

/-- Stores bytes at an address and the ones after it, where the bus owns the address. -/
def Memory.store : Memory → Word → List Byte → Memory
  | m, _, [] => m
  | m, a, v :: vs => Memory.store (if busOwns a.toNat then Memory.write m a.toNat v else m) (a + 1) vs

/-- Whether the coming interrupt check dispatches (R421, R424). -/
def State.dispatchDue (s : State) : Bool :=
  (match s.params.eiDispatchOrder with
    | .doc => s.imeNext
    | .late => s.ime) && s.activeIrqs != 0#5

/-- The state `s` made ready to run the bytes `bs` at PC as its very next instruction: running, with no dispatch due, no
HALT bug pending, and a plain-RAM bus for the fetch. -/
def State.placeInstr (bs : List Byte) (s : State) : State :=
  { s with
    mem := Memory.store s.mem s.pc bs
    fault := none
    halted := false
    haltBugPending := false
    env := []
    ime := s.ime && !s.dispatchDue
    imeNext := s.imeNext && !s.dispatchDue }

end Sys2Proof.Machine
end

