-- ==== Sys2Proof/Machine/Loop.lean ====
section
/-! DEFINITION. One iteration of the run loop (60_exceptions.md R443): interrupt check, then a halted fast-forward or one
fetch-decode-execute. -/

namespace Sys2Proof.Machine

/-- `Sched.cyclesUntilNextEvent()` (R441): the script's answer, or a free value (log 5). -/
def State.schedulerAnswer (s : State) : BitVec 32 × State :=
  match s.env with
  | { answer := _, schedule := some k, actions := _ } :: _ => (k, s)
  | _ => (Config.schedulerAnswer s.draws, s.drawn)

/-- The halted branch (R443): time advances by `min(budget - elapsed, k)`, not scaled by double speed (D11), then the
environment may act. -/
def State.fastForward (budget : Nat) (s : State) : State :=
  let r := s.schedulerAnswer
  let adv := min (budget - s.elapsed) r.1.toNat
  (r.2.spend adv).environment

/-- `step()` of R444: fetch, decode, execute. -/
def State.fetchDecodeExecute (s : State) : Result :=
  let r := s.fetchInstr
  exec r.1 r.2

/-- The body of the run loop (R443) for a call with this budget. -/
def loopIteration (budget : Nat) (s : State) : Result :=
  let s1 := s.interruptCheck
  match s1.halted with
  | true => .next (s1.fastForward budget)
  | false => s1.fetchDecodeExecute

end Sys2Proof.Machine
end

