-- ==== Sys2Proof/Machine/Step.lean ====
section
/-! DEFINITION. One step of the machine, and the host's way of placing an instruction. -/

namespace Sys2Proof.Machine

/-- One step: a faulted core takes no further step (R401); else one iteration of the run loop, in a call whose budget does not
cut a fast-forward short (any scheduler answer is below 2^32; log 11). -/
def step (s : State) : Host.Outcome State Fault Refusal :=
  match s.fault with
  | some k => .fault k
  | none => loopIteration (s.elapsed + 0x100000000) s

/-- `s` with the instruction whose table word is `w` placed where `step` fetches next (log 15). -/
def State.withFetchWord (s : State) (nbits w : Nat) : State := s.placeInstr (tableBytes nbits w)

end Sys2Proof.Machine
end

