-- ==== Sys2Proof/Machine/Platform.lean ====
section
/-! DEFINITION. The host's interface (60_exceptions.md R443, R446, R450): `run`, reset and rebase. -/

namespace Sys2Proof.Machine

/-- The loop condition of `run` fails: the budget is used up, or the core is faulted (R443). -/
def runDone (budget : Nat) (s : State) : Bool := decide (budget ≤ s.elapsed) || s.fault.isSome

/-- At most `fuel` iterations of the run loop, stopping when its condition fails (log 11). -/
def runLoop : Nat → Nat → State → Result
  | 0, _, s => .next s
  | fuel + 1, budget, s =>
    match runDone budget s with
    | true => .next s
    | false =>
      match loopIteration budget s with
      | .next s' => runLoop fuel budget s'
      | .fault k => .fault k
      | .refused k => .refused k

/-- `run(budget)` (R443): `elapsed` starts at 0; what it returns is the end state's `elapsed` and `fault` (R446). -/
def run (fuel budget : Nat) (s : State) : Result := runLoop fuel budget { s with elapsed := 0 }

/-- The host's reset (70_reset_and_hazards.md R460): every piece of core state at its reset value, for the draws `ie` and
`iflag`; memory and the world outside are not touched, no time is ticked (log 22). -/
def State.hostReset (ie iflag : BitVec 5) (s : State) : State :=
  { State.resetWith s.params ie iflag with mem := s.mem, env := s.env, draws := s.draws }

/-- The host's rebase (R450; D26): lowers `timestamp` by the host's amount (log 21). -/
def State.rebase (amount : Nat) (s : State) : State := { s with timestamp := s.timestamp - amount }

end Sys2Proof.Machine
end

