-- ==== Sys2Proof/Safety.lean ====
section
/-! DEFINITION. The terms in which claims are stated: a safe state, the invariant of every step, what an instruction may change
(its footprint), what a store leaves behind, the bytes a fetch is answered, and the cycle table. -/

namespace Sys2Proof

/-- The 8-bit registers of a pair. -/
def R16.halves : R16 → List Reg8
  | .bc => [.b, .c]
  | .de => [.d, .e]
  | .hl => [.h, .l]
  | .sp => []

/-- The 8-bit registers of a stacked pair; AF is A and the flags. -/
def R16stk.halves : R16stk → List Reg8
  | .bc => [.b, .c]
  | .de => [.d, .e]
  | .hl => [.h, .l]
  | .af => [.a]

/-- What an R16mem operand may write: HL, for the two forms that step it (30_encoding.md R106). -/
def R16mem.halves : R16mem → List Reg8
  | .bc => []
  | .de => []
  | .hlInc => [.h, .l]
  | .hlDec => [.h, .l]

/-- The cycles an R8 operand costs to read or to write. -/
def Operand8.cycles : Operand8 → Nat
  | .reg _ => 0
  | .atHl => 4

/-- The registers a write of an R8 operand writes. -/
def Operand8.regs : Operand8 → List Reg8
  | .reg r => [r]
  | .atHl => []

/-! ### The index of each operand in its encoding table -/

/-- R8 (30_encoding.md R104). -/
def Operand8.index : Operand8 → Nat
  | .reg .b => 0
  | .reg .c => 1
  | .reg .d => 2
  | .reg .e => 3
  | .reg .h => 4
  | .reg .l => 5
  | .atHl => 6
  | .reg .a => 7

/-- R16 (R105). -/
def R16.index : R16 → Nat
  | .bc => 0
  | .de => 1
  | .hl => 2
  | .sp => 3

/-- R16mem (R106). -/
def R16mem.index : R16mem → Nat
  | .bc => 0
  | .de => 1
  | .hlInc => 2
  | .hlDec => 3

/-- R16stk (R107). -/
def R16stk.index : R16stk → Nat
  | .bc => 0
  | .de => 1
  | .hl => 2
  | .af => 3

/-- cond (R108). -/
def Cond.index : Cond → Nat
  | .nz => 0
  | .z => 1
  | .nc => 2
  | .c => 3

/-- The ALU operations (R109). -/
def AluOp.index : AluOp → Nat
  | .add => 0
  | .adc => 1
  | .sub => 2
  | .sbc => 3
  | .and => 4
  | .xor => 5
  | .or => 6
  | .cp => 7

/-- The CB rotates and shifts (R110). -/
def RotOp.index : RotOp → Nat
  | .rlc => 0
  | .rrc => 1
  | .rl => 2
  | .rr => 3
  | .sla => 4
  | .sra => 5
  | .swap => 6
  | .srl => 7

/-- The byte of an illegal primary opcode (30_encoding.md R130; 60_exceptions.md R402). -/
def IllegalByte.opcode : IllegalByte → Byte
  | .d3 => 0xD3#8
  | .db => 0xDB#8
  | .dd => 0xDD#8
  | .e3 => 0xE3#8
  | .e4 => 0xE4#8
  | .eb => 0xEB#8
  | .ec => 0xEC#8
  | .ed => 0xED#8
  | .f4 => 0xF4#8
  | .fc => 0xFC#8
  | .fd => 0xFD#8

/-! ### Register and [HL] forms of one operation, as one family -/

/-- `INC r8` and `INC [HL]` (41_block0.md R211, R212). -/
def instrInc8 : Operand8 → Instr
  | .reg r => instrIncR r
  | .atHl => .incAtHl

/-- `DEC r8` and `DEC [HL]` (R213, R214). -/
def instrDec8 : Operand8 → Instr
  | .reg r => instrDecR r
  | .atHl => .decAtHl

/-- `LD r8,n8` and `LD [HL],n8` (R215, R216). -/
def instrLdN8 : Operand8 → Byte → Instr
  | .reg r, n8 => instrLdRN8 r n8
  | .atHl, n8 => .ldAtHlN8 n8

/-- `alu A,r8` and `alu A,[HL]` (43_block2_alu.md R270 to R285). -/
def instrAlu (op : AluOp) : Operand8 → Instr
  | .reg r => instrAluR op r
  | .atHl => instrAluAtHl op

/-- The rotates and shifts of CB group 00 (45_cb_prefix.md R370 to R385). -/
def instrRot (op : RotOp) : Operand8 → Instr
  | .reg r => instrRotR op r
  | .atHl => instrRotAtHl op

/-- `BIT b,r8` and `BIT b,[HL]` (R386, R387). -/
def instrBit (b : Field3) : Operand8 → Instr
  | .reg r => instrBitR b r
  | .atHl => instrBitAtHl b

/-- `RES b,r8` and `RES b,[HL]` (R388, R389). -/
def instrRes (b : Field3) : Operand8 → Instr
  | .reg r => instrResR b r
  | .atHl => instrResAtHl b

/-- `SET b,r8` and `SET b,[HL]` (R390, R391). -/
def instrSet (b : Field3) : Operand8 → Instr
  | .reg r => instrSetR b r
  | .atHl => instrSetAtHl b

end Sys2Proof

namespace Sys2Proof.Machine

/-- SAFE: no fatal condition is recorded. A run is safe while every state of it is (60_exceptions.md R400, R401). -/
abbrev Safe (s : State) : Prop := s.fault = none

/-- A recorded condition the spec admits (R400, R402, R403). -/
def Fault.Admitted : Fault → Prop
  | .illegalOpcode _ op => ∃ k : IllegalByte, op = k.opcode
  | .unimplementedSystemMode _ => True

/-- The invariant every step keeps. -/
structure State.Inv (s : State) : Prop where
  /-- Memory keeps its canonical form (log 2). -/
  memory : s.mem.wf = true
  /-- "With `HALT_BUG` false it is always false" (10_state.md R59). -/
  haltBugOnlyWithParameter : s.haltBugPending = true → s.params.haltBug = true
  /-- A HALT that sets `halt_bug_pending` does not halt (42_block1.md R253). -/
  haltBugNotHalted : s.haltBugPending = true → s.halted = false
  /-- `ime` is true only where `ime_next` is (R43, R44, R421, R424). -/
  imeImpliesNext : s.ime = true → s.imeNext = true
  /-- A recorded condition is one the spec admits; it records where the opcode was fetched, and PC is there (R54, R400); the core is
  not halted (R435). -/
  faultAtOpcode : ∀ k, s.fault = some k → k.Admitted ∧ s.pc = k.pc ∧ k.pc = s.opcodePc ∧ s.halted = false
  /-- The budget counter never runs ahead of the clock: every tick adds the same to both (20_memory.md R73). -/
  elapsedWithinTimestamp : s.elapsed ≤ s.timestamp

/-- The next `n` turns of an environment script bring no action. -/
abbrev Quiet (n : Nat) (env : List EnvEvent) : Prop := ∀ ev ∈ env.take n, ev.actions = []

/-- What an instruction may write, and the cycles it spends beyond its fetch: the FRAME of a claim, as data. -/
structure Footprint where
  /-- The 8-bit registers it may write. -/
  regs : List Reg8 := []
  /-- Whether it may write flags. -/
  flags : Bool := false
  /-- Whether it may write SP. -/
  sp : Bool := false
  /-- Whether it may write PC (which is past the instruction already). -/
  pc : Bool := false
  /-- Whether it may write `ime` and `ime_next`. -/
  ime : Bool := false
  /-- The addresses it stores to. -/
  stores : List Word := []
  /-- Its cycles beyond its fetch, before double-speed scaling; every 4 are one tick, one turn of the environment. -/
  cycles : Nat := 0
deriving DecidableEq, Repr

/-- `t` differs from `s` at most in what the footprint `f` names, the time it spends, and what the environment did in its turns
(it only ORs bits into `irq_flags` and arms `speed_switch_pending`, 60_exceptions.md R450). -/
structure Within (f : Footprint) (s t : State) : Prop where
  regs : ∀ r, r ∉ f.regs → t.reg8 r = s.reg8 r
  flags : f.flags = false → t.flags = s.flags
  sp : f.sp = false → t.sp = s.sp
  pc : f.pc = false → t.pc = s.pc
  ime : f.ime = false → t.ime = s.ime ∧ t.imeNext = s.imeNext
  memory : ∀ a, a ∉ f.stores → t.byteAt a = s.byteAt a
  irqEnable : ieAddr ∉ f.stores → t.irqEnable = s.irqEnable
  irqFlagsKept : ifAddr ∉ f.stores → s.irqFlags &&& t.irqFlags = s.irqFlags
  irqFlagsQuiet : ifAddr ∉ f.stores → Quiet (f.cycles / 4) s.env → t.irqFlags = s.irqFlags
  speedSwitchKept : s.speedSwitchPending = true → t.speedSwitchPending = true
  speedSwitchQuiet : Quiet (f.cycles / 4) s.env → t.speedSwitchPending = s.speedSwitchPending
  halted : t.halted = s.halted
  haltBugPending : t.haltBugPending = s.haltBugPending
  doubleSpeed : t.doubleSpeed = s.doubleSpeed
  fault : t.fault = s.fault
  params : t.params = s.params
  opcodePc : t.opcodePc = s.opcodePc
  timestamp : t.timestamp = s.timestamp + scaledTicks s.doubleSpeed f.cycles
  elapsed : t.elapsed = s.elapsed + scaledTicks s.doubleSpeed f.cycles
  env : t.env = s.env.drop (f.cycles / 4)

/-- What storing `v` at `a` leaves, in a run of `n` environment turns from `s` to `t`: the byte at a bus address; at 0xFFFF and
0xFF0F the five low bits in IE and IF (10_state.md R50). Later turns may OR more bits into IF. -/
structure Stored (a : Word) (v : Byte) (n : Nat) (s t : State) : Prop where
  bus : a ≠ ifAddr → a ≠ ieAddr → t.byteAt a = v
  enable : a = ieAddr → t.irqEnable = v.extractLsb' 0 5
  request : a = ifAddr → v.extractLsb' 0 5 &&& t.irqFlags = v.extractLsb' 0 5
  requestQuiet : a = ifAddr → Quiet n s.env → t.irqFlags = v.extractLsb' 0 5

/-- The addresses a write of an R8 operand stores to. -/
def State.operandStores (s : State) : Operand8 → List Word
  | .reg _ => []
  | .atHl => [s.hl]

/-- The R8 operand `o` holds `v` in `t`: the register, or what a store at the HL of `s` leaves `n` turns later. -/
def Written (o : Operand8) (v : Byte) (n : Nat) (s t : State) : Prop :=
  match o with
  | .reg r => t.reg8 r = v
  | .atHl => Stored s.hl v n s t

/-- The three bytes a fetch at `s` would be answered, the first by the opcode fetch (R444), the others by `fetch8` (R80). -/
def State.answeredBytes (s : State) : List Byte :=
  let s1 := s.fetchOpcode
  let s2 := s1.2.fetch8
  [s1.1, s2.1, s2.2.fetch8.1]

/-- The state after the fetch of an instruction of `n` bytes. -/
def State.afterFetch (s : State) : Nat → State
  | 0 => s
  | 1 => s.fetchOpcode.2
  | n + 2 => (s.afterFetch (n + 1)).fetch8.2

/-- How many bytes of an instruction are read: all of them, but for the second byte of STOP, which "is not read"
(41_block0.md R230). -/
def bytesRead (i : Instr) : Nat := if i = .stop then 1 else instrLength i

/-- `i` is written as `bytes` and takes `total` cycles, before double-speed scaling: 4 for each byte its fetch reads, and `beyond`
after the fetch (70_reset_and_hazards.md R480, R481). -/
def Coded (i : Instr) (bytes : List Byte) (beyond total : Nat) : Prop := encode i = bytes ∧ 4 * bytesRead i + beyond = total

/-- The result of a rotate or shift and its carry (40_alu.md R164 to R171), as numbers. -/
def rotResult (op : RotOp) (v : Nat) (cin : Bool) : Nat × Bool :=
  match op with
  | .rlc => (v * 2 % 256 + v / 128, decide (v / 128 = 1))
  | .rrc => (v / 2 + v % 2 * 128, decide (v % 2 = 1))
  | .rl => (v * 2 % 256 + cin.toNat, decide (v / 128 = 1))
  | .rr => (v / 2 + cin.toNat * 128, decide (v % 2 = 1))
  | .sla => (v * 2 % 256, decide (v / 128 = 1))
  | .sra => (v / 2 + v / 128 * 128, decide (v % 2 = 1))
  | .swap => (v % 16 * 16 + v / 16, false)
  | .srl => (v / 2, decide (v % 2 = 1))

/-- The packed BCD byte of a number below 100. -/
def bcdByte (n : Nat) : Byte := BitVec.ofNat 8 (n / 10 * 16 + n % 10)

/-- The cycles of every primary opcode (70_reset_and_hazards.md R481), taken; an illegal opcode has its 4 cycles of fetch, and
the entry of 0xCB is `4+`. -/
def cyclesTaken : List Nat :=
  [4, 12, 8, 8, 4, 4, 8, 4, 20, 8, 8, 8, 4, 4, 8, 4] ++
  [4, 12, 8, 8, 4, 4, 8, 4, 12, 8, 8, 8, 4, 4, 8, 4] ++
  [12, 12, 8, 8, 4, 4, 8, 4, 12, 8, 8, 8, 4, 4, 8, 4] ++
  [12, 12, 8, 8, 12, 12, 12, 4, 12, 8, 8, 8, 4, 4, 8, 4] ++
  [4, 4, 4, 4, 4, 4, 8, 4, 4, 4, 4, 4, 4, 4, 8, 4] ++
  [4, 4, 4, 4, 4, 4, 8, 4, 4, 4, 4, 4, 4, 4, 8, 4] ++
  [4, 4, 4, 4, 4, 4, 8, 4, 4, 4, 4, 4, 4, 4, 8, 4] ++
  [8, 8, 8, 8, 8, 8, 4, 8, 4, 4, 4, 4, 4, 4, 8, 4] ++
  [4, 4, 4, 4, 4, 4, 8, 4, 4, 4, 4, 4, 4, 4, 8, 4] ++
  [4, 4, 4, 4, 4, 4, 8, 4, 4, 4, 4, 4, 4, 4, 8, 4] ++
  [4, 4, 4, 4, 4, 4, 8, 4, 4, 4, 4, 4, 4, 4, 8, 4] ++
  [4, 4, 4, 4, 4, 4, 8, 4, 4, 4, 4, 4, 4, 4, 8, 4] ++
  [20, 12, 16, 16, 24, 16, 8, 16, 20, 16, 16, 4, 24, 24, 8, 16] ++
  [20, 12, 16, 4, 24, 16, 8, 16, 20, 16, 16, 4, 24, 4, 8, 16] ++
  [12, 12, 8, 4, 4, 16, 8, 16, 16, 4, 16, 4, 4, 4, 8, 16] ++
  [12, 12, 8, 4, 4, 16, 8, 16, 12, 8, 16, 4, 4, 4, 8, 16]

/-- The condition a conditional opcode tests (30_encoding.md R108, R121, R124) and its cycles when not taken (R481). -/
def notTakenCycles (op : Byte) : Option (Cond × Nat) :=
  match op.toNat with
  | 0x20 => some (.nz, 8)
  | 0x28 => some (.z, 8)
  | 0x30 => some (.nc, 8)
  | 0x38 => some (.c, 8)
  | 0xC0 => some (.nz, 8)
  | 0xC8 => some (.z, 8)
  | 0xD0 => some (.nc, 8)
  | 0xD8 => some (.c, 8)
  | 0xC2 => some (.nz, 12)
  | 0xCA => some (.z, 12)
  | 0xD2 => some (.nc, 12)
  | 0xDA => some (.c, 12)
  | 0xC4 => some (.nz, 12)
  | 0xCC => some (.z, 12)
  | 0xD4 => some (.nc, 12)
  | 0xDC => some (.c, 12)
  | _ => none

/-- The cycles of a CB row, both fetches counted (R481): register forms 8, `BIT b,[HL]` 12, every other `[HL]` form 16. -/
def cbCycles (op2 : Byte) : Nat :=
  if op2.toNat % 8 ≠ 6 then 8 else if 0x40 ≤ op2.toNat ∧ op2.toNat < 0x80 then 12 else 16

/-- The cycles R481 gives the instruction whose bytes begin with `op`, `op2`, for the flags it starts with. -/
def cycleCount (op op2 : Byte) (f : Flags) : Nat :=
  if op = 0xCB#8 then cbCycles op2
  else
    match notTakenCycles op with
    | some (cc, n) => if condHolds cc f then cyclesTaken.getD op.toNat 0 else n
    | none => cyclesTaken.getD op.toNat 0

end Sys2Proof.Machine
end

