-- ==== Sys2Proof/Certificates/Slice0/Obligations.lean ====
section
/-! DEFINITION. The statements for the provers. Each instruction statement gives the row's bytes (`encode`), the state its meaning
ANSWERS (`exec … = .next t`), the values it writes, and its frame (`Within`, Safety.lean). In `exec` PC is past the whole
instruction (00_scope.md R14; log 16; one byte lower after a buggy HALT, log 26), so cycles are those beyond the fetch. -/

open Sys2Proof Sys2Proof.Machine

/-! ### Encoding -/

/-- Words written out from the encodings of the opcode maps decode to the instructions they stand for (R120 to R125). The last two
conjuncts are the model's choices: how a word of the opcode table is laid out in bytes (DESIGN CHOICE, log 13), and that the lone byte
0xCB decodes to a constructor of its own (DESIGN CHOICE, log 12). -/
def Obligations.TableWordsDecode : Prop :=
  decode [0x00#8] = .instr .nop [] ∧
  decode [0x31#8, 0xFE#8, 0xFF#8] = .instr (.ldSpN16 0xFFFE#16) [] ∧
  decode [0x22#8] = .instr .ldAtHlIncA [] ∧
  decode [0x36#8, 0xAB#8] = .instr (.ldAtHlN8 0xAB#8) [] ∧
  decode [0x38#8, 0xFB#8] = .instr (.jrCE8 0xFB#8) [] ∧
  decode [0x76#8] = .instr .halt [] ∧
  decode [0x78#8] = .instr .ldAB [] ∧
  decode [0x9E#8] = .instr .sbcAAtHl [] ∧
  decode [0xC4#8, 0x34#8, 0x12#8] = .instr (.callNzN16 0x1234#16) [] ∧
  decode [0xF1#8] = .instr .popAf [] ∧
  decode [0xF8#8, 0x08#8] = .instr (.ldHlSpE8 0x08#8) [] ∧
  decode [0xFD#8] = .instr .illegalFD [] ∧
  decode [0xCB#8, 0x37#8] = .instr .swapA [] ∧
  decode [0xCB#8, 0x46#8] = .instr .bit0AtHl [] ∧
  decode [0xCB#8, 0xBF#8] = .instr .res7A [] ∧
  decode [0xCB#8, 0xC0#8] = .instr .set0B [] ∧
  decodeTableWord 16 0xCB37 = some .swapA ∧
  decodeTableWord 8 0xCB = some .prefixCb

/-- Decoding the encoding of a complete instruction gives it back, and leaves whatever follows. -/
def Obligations.DecodeOfEncode : Prop :=
  ∀ (i : Instr) (rest : List Byte), WellFormed i = true → decode (encode i ++ rest) = .instr i rest

/-- Three bytes always hold an instruction, a complete one, and (but for the byte STOP skips) its encoding is those bytes. -/
def Obligations.DecodeIsTotal : Prop :=
  ∀ (b0 b1 b2 : Byte) (rest : List Byte), ∃ i rest',
    decode (b0 :: b1 :: b2 :: rest) = .instr i rest' ∧ WellFormed i = true ∧
    rest'.length + instrLength i = rest.length + 3 ∧
    (i ≠ .stop → encode i ++ rest' = b0 :: b1 :: b2 :: rest)

/-- The one-byte rows the decoder calls illegal are exactly the 11 bytes of R130. -/
def Obligations.IllegalBytesExactly : Prop :=
  ∀ (b : Byte) (rest : List Byte),
    (∃ k, decode (b :: rest) = .instr (instrIllegal k) rest) ↔
      b ∈ [0xD3#8, 0xDB#8, 0xDD#8, 0xE3#8, 0xE4#8, 0xEB#8, 0xEC#8, 0xED#8, 0xF4#8, 0xFC#8, 0xFD#8]

/-! ### The step -/

/-- A STEP RUNS THE DECODED INSTRUCTION. After the interrupt check of an unfaulted core that is then not halted, the step is
`exec` of the instruction the answered bytes decode to, at the state after the fetch of the bytes it reads. -/
def Obligations.StepRunsDecodedInstruction : Prop :=
  ∀ (s : State) (i : Instr) (rest : List Byte), Safe s → s.interruptCheck.halted = false →
    decode s.interruptCheck.answeredBytes = .instr i rest →
    step s = exec i (s.interruptCheck.afterFetch (bytesRead i))

/-- The same on a plain RAM bus with no interrupt pending (log 1), with the state after the fetch written out. Where the HALT bug is
pending the opcode fetch does not advance PC (R444): every byte after the first (R80) and PC itself lag by one, and the bug is over; that
the second byte of a CB prefix lags too is the model's choice (DESIGN CHOICE, log 26). -/
def Obligations.StepOnPlainBus : Prop :=
  ∀ (s : State) (i : Instr) (rest : List Byte), Safe s → s.halted = false → s.activeIrqs = 0#5 → s.env = [] →
    (∀ k < 3, s.pc + BitVec.ofNat 16 k ≠ ifAddr ∧ s.pc + BitVec.ofNat 16 k ≠ ieAddr) →
    let lag : Word := if s.params.haltBug && s.haltBugPending then 1 else 0
    decode [s.byteAt s.pc, s.byteAt (s.pc + 1 - lag), s.byteAt (s.pc + 2 - lag)] = .instr i rest →
    step s = exec i
      { s with
        ime := s.imeNext
        haltBugPending := s.haltBugPending && !s.params.haltBug
        opcodePc := s.pc
        pc := s.pc + BitVec.ofNat 16 (bytesRead i) - lag
        timestamp := s.timestamp + scaledTicks s.doubleSpeed (4 * bytesRead i)
        elapsed := s.elapsed + scaledTicks s.doubleSpeed (4 * bytesRead i) }

/-- Every step keeps the invariant of Safety.lean; its clause on a recorded fault rests on logs 10 and 18. -/
def Obligations.StepKeepsInvariant : Prop :=
  ∀ s t : State, s.Inv → step s = .next t → t.Inv

/-- The state after reset meets the invariant, for every parameter value and every draw of IE and IF. -/
def Obligations.InvariantAtReset : Prop :=
  State.reset.Inv ∧ ∀ (p : Params) (ie iflag : BitVec 5), (State.resetWith p ie iflag).Inv

/-- A step stops exactly when a fatal condition is recorded, with that condition; it never refuses. A step that goes on changes no
parameter, and moves `timestamp` and `elapsed` by the same amount. -/
def Obligations.StepStopsExactlyWhenFaulted : Prop :=
  ∀ s : State, (∀ k, step s = .fault k ↔ s.fault = some k) ∧ (∀ r, step s ≠ .refused r) ∧
    (Safe s → ∃ t, step s = .next t ∧ t.params = s.params ∧
      ∃ n, t.timestamp = s.timestamp + n ∧ t.elapsed = s.elapsed + n)

/-- Each of the 512 rows, in every state, answers a next state; none changes the parameters, and each adds the same time to
`timestamp` and `elapsed`, at most 20 cycles beyond its fetch. The 11 ILLEGAL rows, and STOP with no switch pending, raise a fatal
condition (R400); that they answer a next state, with the condition recorded, is the model's reading (DEDUCED, log 10). -/
def Obligations.EveryRowAnswersNext : Prop :=
  ∀ (i : Instr) (s : State), ∃ t, exec i s = .next t ∧ t.params = s.params ∧
    ∃ n ≤ 20, t.timestamp = s.timestamp + n ∧ t.elapsed = s.elapsed + n

/-! ### Reset -/

/-- The state after reset (R58), for both boot modes and every draw of `irq_enable` and `irq_flags`. -/
def Obligations.ResetState : Prop :=
  ∀ (p : Params) (ie iflag : BitVec 5),
    let s := State.resetWith p ie iflag
    s.pc = 0x0100#16 ∧ s.sp = 0xFFFE#16 ∧
    (p.bootMode = .plain → s.af = 0x0000#16 ∧ s.a = 0x00#8) ∧ (p.bootMode = .compat → s.af = 0x1100#16 ∧ s.a = 0x11#8) ∧
    s.flags = ⟨false, false, false, false⟩ ∧ s.bc = 0x0000#16 ∧ s.de = 0x0000#16 ∧ s.hl = 0x0000#16 ∧
    s.ime = false ∧ s.imeNext = false ∧ s.halted = false ∧ s.doubleSpeed = false ∧ s.speedSwitchPending = false ∧
    s.timestamp = 0 ∧ s.irqEnable = ie ∧ s.irqFlags = iflag ∧ s.fault = none ∧ s.haltBugPending = false

/-- The host's reset (R460): every piece of core state at its reset value, from any state (a faulted or a halted one too);
memory is not touched and the environment gets no turn. -/
def Obligations.HostResetRestoresTheCore : Prop :=
  ∀ (ie iflag : BitVec 5) (s : State),
    let t := s.hostReset ie iflag
    Safe t ∧ t.halted = false ∧ t.pc = 0x0100#16 ∧ t.sp = 0xFFFE#16 ∧ t.ime = false ∧ t.imeNext = false ∧
    t.doubleSpeed = false ∧ t.speedSwitchPending = false ∧ t.timestamp = 0 ∧ t.haltBugPending = false ∧
    t.irqEnable = ie ∧ t.irqFlags = iflag ∧ t.flags = ⟨false, false, false, false⟩ ∧
    t.bc = 0x0000#16 ∧ t.de = 0x0000#16 ∧ t.hl = 0x0000#16 ∧ t.a = hiByte s.params.bootMode.af ∧
    (∀ a, t.byteAt a = s.byteAt a) ∧ t.env = s.env

/-! ### Loads -/

/-- `NOP` (R200) changes nothing beyond its fetch. -/
def Obligations.NoOperation : Prop :=
  ∀ s : State, Coded .nop [0x00#8] 0 4 ∧ exec .nop s = .next s

/-- `LD r8,r8'` (R250) copies a register, flags kept; copying a register to itself changes nothing. -/
def Obligations.RegisterLoads : Prop :=
  ∀ (dst src : Reg8) (s : State),
    Coded (instrLdRR dst src) [BitVec.ofNat 8 (0x40 + 8 * (Operand8.reg dst).index + (Operand8.reg src).index)] 0 4 ∧
    ∃ t, exec (instrLdRR dst src) s = .next t ∧ t.reg8 dst = s.reg8 src ∧ Within { regs := [dst] } s t ∧
      (dst = src → t = s)

/-- `LD r8,n8` (R215) and `LD [HL],n8` (R216). -/
def Obligations.ImmediateByteLoads : Prop :=
  ∀ (o : Operand8) (n8 : Byte) (s : State),
    Coded (instrLdN8 o n8) [BitVec.ofNat 8 (0x06 + 8 * o.index), n8] o.cycles (8 + o.cycles) ∧
    ∃ t, exec (instrLdN8 o n8) s = .next t ∧ Written o n8 1 s t ∧
      Within { regs := o.regs, stores := s.operandStores o, cycles := o.cycles } s t

/-- `LD r8,[HL]` (R251) loads the byte a read at HL is answered; `LD [HL],r8` (R252) stores the register at HL. -/
def Obligations.LoadsAndStoresThroughHl : Prop :=
  ∀ (r : Reg8) (s : State),
    Coded (instrLdRAtHl r) [BitVec.ofNat 8 (0x46 + 8 * (Operand8.reg r).index)] 4 8 ∧
    (∃ t, exec (instrLdRAtHl r) s = .next t ∧ t.reg8 r = (s.memRead s.hl).1 ∧
      Within { regs := [r], cycles := 4 } s t) ∧
    Coded (instrLdAtHlR r) [BitVec.ofNat 8 (0x70 + (Operand8.reg r).index)] 4 8 ∧
    ∃ t, exec (instrLdAtHlR r) s = .next t ∧ Stored s.hl (s.reg8 r) 1 s t ∧
      Within { stores := [s.hl], cycles := 4 } s t

/-- `LD r16,n16` (R201): the immediate is stored low byte first, and is read into the pair or SP. -/
def Obligations.PairImmediateLoads : Prop :=
  ∀ (p : R16) (n16 : Word) (s : State),
    Coded (instrLdR16N16 p n16) [BitVec.ofNat 8 (0x01 + 16 * p.index), loByte n16, hiByte n16] 0 12 ∧
    ∃ t, exec (instrLdR16N16 p n16) s = .next t ∧ t.r16 p = n16 ∧
      Within { regs := p.halves, sp := decide (p = .sp) } s t

/-- `LD [r16mem],A` (R202 to R204): A goes to the address the operand gives, then HL steps for HL+ and HL-. -/
def Obligations.StoresOfAThroughPairs : Prop :=
  ∀ (m : R16mem) (s : State),
    Coded (instrLdAtR16memA m) [BitVec.ofNat 8 (0x02 + 16 * m.index)] 4 8 ∧
    (s.r16memAddr .bc = s.bc ∧ s.r16memAddr .de = s.de ∧ s.r16memAddr .hlInc = s.hl ∧ s.r16memAddr .hlDec = s.hl) ∧
    ∃ t, exec (instrLdAtR16memA m) s = .next t ∧ Stored (s.r16memAddr m) s.a 1 s t ∧
      (m = .hlInc → t.hl.toNat = (s.hl.toNat + 1) % 65536) ∧ (m = .hlDec → t.hl.toNat = (s.hl.toNat + 65535) % 65536) ∧
      Within { regs := m.halves, stores := [s.r16memAddr m], cycles := 4 } s t

/-- `LD A,[r16mem]` (R205 to R207). -/
def Obligations.LoadsOfAThroughPairs : Prop :=
  ∀ (m : R16mem) (s : State),
    Coded (instrLdAAtR16mem m) [BitVec.ofNat 8 (0x0A + 16 * m.index)] 4 8 ∧
    ∃ t, exec (instrLdAAtR16mem m) s = .next t ∧ t.a = (s.memRead (s.r16memAddr m)).1 ∧
      (m = .hlInc → t.hl.toNat = (s.hl.toNat + 1) % 65536) ∧ (m = .hlDec → t.hl.toNat = (s.hl.toNat + 65535) % 65536) ∧
      Within { regs := .a :: m.halves, cycles := 4 } s t

/-- `LD [n16],SP` (R225): SP's low byte at n16, its high byte at n16 + 1 modulo 0x10000. -/
def Obligations.StoreOfStackPointer : Prop :=
  ∀ (n16 : Word) (s : State),
    Coded (.ldAtN16Sp n16) [0x08#8, loByte n16, hiByte n16] 8 20 ∧
    ∃ t, exec (.ldAtN16Sp n16) s = .next t ∧ Stored n16 (loByte s.sp) 2 s t ∧ Stored (n16 + 1) (hiByte s.sp) 2 s t ∧
      Within { stores := [n16, n16 + 1], cycles := 8 } s t

/-- `LDH [n8],A` (R321), `LDH [C],A` (R323), `LD [n16],A` (R325). -/
def Obligations.StoresOfAToAddresses : Prop :=
  ∀ (i : Instr) (bytes : List Byte) (total : Nat) (addr : Word) (s : State),
    ((∃ n8, i = .ldhAtN8A n8 ∧ bytes = [0xE0#8, n8] ∧ total = 12 ∧ addr.toNat = 0xFF00 + n8.toNat) ∨
     (i = .ldhAtCA ∧ bytes = [0xE2#8] ∧ total = 8 ∧ addr.toNat = 0xFF00 + s.c.toNat) ∨
     (i = .ldAtN16A addr ∧ bytes = [0xEA#8, loByte addr, hiByte addr] ∧ total = 16)) →
    Coded i bytes 4 total ∧
    ∃ t, exec i s = .next t ∧ Stored addr s.a 1 s t ∧ Within { stores := [addr], cycles := 4 } s t

/-- `LDH A,[n8]` (R322), `LDH A,[C]` (R324), `LD A,[n16]` (R326). -/
def Obligations.LoadsOfAFromAddresses : Prop :=
  ∀ (i : Instr) (bytes : List Byte) (total : Nat) (addr : Word) (s : State),
    ((∃ n8, i = .ldhAAtN8 n8 ∧ bytes = [0xF0#8, n8] ∧ total = 12 ∧ addr.toNat = 0xFF00 + n8.toNat) ∨
     (i = .ldhAAtC ∧ bytes = [0xF2#8] ∧ total = 8 ∧ addr.toNat = 0xFF00 + s.c.toNat) ∨
     (i = .ldAAtN16 addr ∧ bytes = [0xFA#8, loByte addr, hiByte addr] ∧ total = 16)) →
    Coded i bytes 4 total ∧
    ∃ t, exec i s = .next t ∧ t.a = (s.memRead addr).1 ∧ Within { regs := [.a], cycles := 4 } s t

/-! ### Arithmetic -/

/-- `INC r16` (R208) and `DEC r16` (R209): modulo 0x10000, no flag. -/
def Obligations.PairIncrementDecrement : Prop :=
  ∀ (p : R16) (s : State),
    Coded (instrIncR16 p) [BitVec.ofNat 8 (0x03 + 16 * p.index)] 4 8 ∧
    (∃ t, exec (instrIncR16 p) s = .next t ∧ (t.r16 p).toNat = ((s.r16 p).toNat + 1) % 65536 ∧
      Within { regs := p.halves, sp := decide (p = .sp), cycles := 4 } s t) ∧
    Coded (instrDecR16 p) [BitVec.ofNat 8 (0x0B + 16 * p.index)] 4 8 ∧
    ∃ t, exec (instrDecR16 p) s = .next t ∧ (t.r16 p).toNat = ((s.r16 p).toNat + 65535) % 65536 ∧
      Within { regs := p.halves, sp := decide (p = .sp), cycles := 4 } s t

/-- `ADD HL,r16` (R210): Z kept, N false, H the carry out of bit 11, C the carry out of bit 15. -/
def Obligations.AdditionToHl : Prop :=
  ∀ (p : R16) (s : State),
    Coded (instrAddHl p) [BitVec.ofNat 8 (0x09 + 16 * p.index)] 4 8 ∧
    ∃ t, exec (instrAddHl p) s = .next t ∧ t.hl.toNat = (s.hl.toNat + (s.r16 p).toNat) % 65536 ∧
      t.flags =
        ⟨s.flags.z, false, decide (4096 ≤ s.hl.toNat % 4096 + (s.r16 p).toNat % 4096),
          decide (65536 ≤ s.hl.toNat + (s.r16 p).toNat)⟩ ∧
      Within { regs := [.h, .l], flags := true, cycles := 4 } s t

/-- `INC r8`, `INC [HL]` (R211, R212) and `DEC r8`, `DEC [HL]` (R213, R214): C kept. -/
def Obligations.ByteIncrementDecrement : Prop :=
  ∀ (o : Operand8) (s : State),
    let v := (s.readOperand8 o).1
    let frame : Footprint := { regs := o.regs, flags := true, stores := s.operandStores o, cycles := 2 * o.cycles }
    Coded (instrInc8 o) [BitVec.ofNat 8 (0x04 + 8 * o.index)] (2 * o.cycles) (4 + 2 * o.cycles) ∧
    (∃ t, exec (instrInc8 o) s = .next t ∧ Written o (BitVec.ofNat 8 (v.toNat + 1)) 2 s t ∧
      t.flags = ⟨decide (v.toNat = 255), false, decide (v.toNat % 16 = 15), s.flags.c⟩ ∧ Within frame s t) ∧
    Coded (instrDec8 o) [BitVec.ofNat 8 (0x05 + 8 * o.index)] (2 * o.cycles) (4 + 2 * o.cycles) ∧
    ∃ t, exec (instrDec8 o) s = .next t ∧ Written o (BitVec.ofNat 8 (v.toNat + 255)) 2 s t ∧
      t.flags = ⟨decide (v.toNat = 1), true, decide (v.toNat % 16 = 0), s.flags.c⟩ ∧ Within frame s t

/-- `ADD A,x` and `ADC A,x` (R270 to R273, R313, R314): H and C are the carries out of bits 3 and 7 of the exact sum. -/
def Obligations.AdditionToA : Prop :=
  ∀ (op : AluOp) (withCarry : Bool) (s : State), (op, withCarry) ∈ [(.add, false), (.adc, true)] →
    let cin := (withCarry && s.flags.c).toNat
    let holds (v : Byte) (t : State) : Prop :=
      t.a.toNat = (s.a.toNat + v.toNat + cin) % 256 ∧
      t.flags =
        ⟨decide ((s.a.toNat + v.toNat + cin) % 256 = 0), false, decide (16 ≤ s.a.toNat % 16 + v.toNat % 16 + cin),
          decide (256 ≤ s.a.toNat + v.toNat + cin)⟩
    (∀ o : Operand8, Coded (instrAlu op o) [BitVec.ofNat 8 (0x80 + 8 * op.index + o.index)] o.cycles (4 + o.cycles) ∧
      ∃ t, exec (instrAlu op o) s = .next t ∧ holds (s.readOperand8 o).1 t ∧
        Within { regs := [.a], flags := true, cycles := o.cycles } s t) ∧
    ∀ n8 : Byte, Coded (instrAluN8 op n8) [BitVec.ofNat 8 (0xC6 + 8 * op.index), n8] 0 8 ∧
      ∃ t, exec (instrAluN8 op n8) s = .next t ∧ holds n8 t ∧ Within { regs := [.a], flags := true } s t

/-- `SUB A,x` and `SBC A,x` (R274 to R277, R315, R316): H and C are the borrows into bits 4 and 8. -/
def Obligations.SubtractionFromA : Prop :=
  ∀ (op : AluOp) (withCarry : Bool) (s : State), (op, withCarry) ∈ [(.sub, false), (.sbc, true)] →
    let cin := (withCarry && s.flags.c).toNat
    let holds (v : Byte) (t : State) : Prop :=
      t.a.toNat = (s.a.toNat + 512 - (v.toNat + cin)) % 256 ∧
      t.flags =
        ⟨decide (t.a.toNat = 0), true, decide (s.a.toNat % 16 < v.toNat % 16 + cin), decide (s.a.toNat < v.toNat + cin)⟩
    (∀ o : Operand8, Coded (instrAlu op o) [BitVec.ofNat 8 (0x80 + 8 * op.index + o.index)] o.cycles (4 + o.cycles) ∧
      ∃ t, exec (instrAlu op o) s = .next t ∧ holds (s.readOperand8 o).1 t ∧
        Within { regs := [.a], flags := true, cycles := o.cycles } s t) ∧
    ∀ n8 : Byte, Coded (instrAluN8 op n8) [BitVec.ofNat 8 (0xC6 + 8 * op.index), n8] 0 8 ∧
      ∃ t, exec (instrAluN8 op n8) s = .next t ∧ holds n8 t ∧ Within { regs := [.a], flags := true } s t

/-- `AND`, `XOR`, `OR` on A (R278 to R283, R317 to R319): C is cleared, H is set by AND and cleared by the others. -/
def Obligations.LogicOnA : Prop :=
  ∀ (op : AluOp) (f : Bool → Bool → Bool) (h : Bool) (s : State),
    ((op = .and ∧ f = and ∧ h = true) ∨ (op = .xor ∧ f = xor ∧ h = false) ∨ (op = .or ∧ f = or ∧ h = false)) →
    let holds (v : Byte) (t : State) : Prop :=
      (∀ k < 8, t.a.getLsbD k = f (s.a.getLsbD k) (v.getLsbD k)) ∧
      t.flags = ⟨decide (t.a.toNat = 0), false, h, false⟩
    (∀ o : Operand8, Coded (instrAlu op o) [BitVec.ofNat 8 (0x80 + 8 * op.index + o.index)] o.cycles (4 + o.cycles) ∧
      ∃ t, exec (instrAlu op o) s = .next t ∧ holds (s.readOperand8 o).1 t ∧
        Within { regs := [.a], flags := true, cycles := o.cycles } s t) ∧
    ∀ n8 : Byte, Coded (instrAluN8 op n8) [BitVec.ofNat 8 (0xC6 + 8 * op.index), n8] 0 8 ∧
      ∃ t, exec (instrAluN8 op n8) s = .next t ∧ holds n8 t ∧ Within { regs := [.a], flags := true } s t

/-- `CP A,x` (R284, R285, R320): the flags of a subtraction; A is not written. -/
def Obligations.CompareWithA : Prop :=
  ∀ s : State,
    let holds (v : Byte) (t : State) : Prop :=
      t.flags =
        ⟨decide (s.a = v), true, decide (s.a.toNat % 16 < v.toNat % 16), decide (s.a.toNat < v.toNat)⟩
    (∀ o : Operand8, Coded (instrAlu .cp o) [BitVec.ofNat 8 (0xB8 + o.index)] o.cycles (4 + o.cycles) ∧
      ∃ t, exec (instrAlu .cp o) s = .next t ∧ holds (s.readOperand8 o).1 t ∧
        Within { flags := true, cycles := o.cycles } s t) ∧
    ∀ n8 : Byte, Coded (instrAluN8 .cp n8) [0xFE#8, n8] 0 8 ∧
      ∃ t, exec (instrAluN8 .cp n8) s = .next t ∧ holds n8 t ∧ Within { flags := true } s t

/-- `RLCA`, `RRCA`, `RLA`, `RRA` (R217 to R220): the helper's result and carry, "Z is always written false". -/
def Obligations.AccumulatorRotates : Prop :=
  ∀ (op : RotAOp) (helper : RotOp) (opcode : Byte) (s : State),
    (op, helper, opcode) ∈
      [(.rlca, .rlc, 0x07#8), (.rrca, .rrc, 0x0F#8), (.rla, .rl, 0x17#8), (.rra, .rr, 0x1F#8)] →
    Coded (instrRotA op) [opcode] 0 4 ∧
    ∃ t, exec (instrRotA op) s = .next t ∧ t.a.toNat = (rotResult helper s.a.toNat s.flags.c).1 ∧
      t.flags = ⟨false, false, false, (rotResult helper s.a.toNat s.flags.c).2⟩ ∧
      Within { regs := [.a], flags := true } s t

/-- `DAA` (R221, R175). -/
def Obligations.DecimalAdjust : Prop :=
  ∀ s : State,
    let n := s.a.toNat
    Coded .daa [0x27#8] 0 4 ∧
    ∃ t, exec .daa s = .next t ∧
      (s.flags.n = false →
        t.a.toNat =
          (n + (if s.flags.c = true ∨ 0x99 < n then 0x60 else 0) + (if s.flags.h = true ∨ 9 < n % 16 then 6 else 0)) % 256 ∧
        t.flags.c = (s.flags.c || decide (0x99 < n))) ∧
      (s.flags.n = true →
        t.a.toNat =
          (n + 512 - ((if s.flags.c = true then 0x60 else 0) + (if s.flags.h = true then 6 else 0))) % 256 ∧
        t.flags.c = s.flags.c) ∧
      t.flags.z = decide (t.a.toNat = 0) ∧ t.flags.n = s.flags.n ∧ t.flags.h = false ∧
      Within { regs := [.a], flags := true } s t

/-- What DAA is for: after `ADC A,n8` of two packed BCD numbers, DAA leaves the packed BCD of their sum modulo 100, with C set
exactly when the sum reaches 100. Derived from R154, R175 and R314. -/
def Obligations.DecimalAdjustAfterAddition : Prop :=
  ∀ (x y : Nat) (s : State), x < 100 → y < 100 → s.a = bcdByte x →
    let sum := x + y + s.flags.c.toNat
    ∃ t u, exec (.adcAN8 (bcdByte y)) s = .next t ∧ exec .daa t = .next u ∧
      u.a = bcdByte (sum % 100) ∧ u.flags = ⟨decide (sum % 100 = 0), false, false, decide (100 ≤ sum)⟩

/-- `CPL` (R222), `SCF` (R223), `CCF` (R224). -/
def Obligations.ComplementAndCarryFlag : Prop :=
  ∀ s : State,
    Coded .cpl [0x2F#8] 0 4 ∧
    (∃ t, exec .cpl s = .next t ∧ t.a.toNat = 255 - s.a.toNat ∧ t.flags = ⟨s.flags.z, true, true, s.flags.c⟩ ∧
      Within { regs := [.a], flags := true } s t) ∧
    Coded .scf [0x37#8] 0 4 ∧
    (∃ t, exec .scf s = .next t ∧ t.flags = ⟨s.flags.z, false, false, true⟩ ∧ Within { flags := true } s t) ∧
    Coded .ccf [0x3F#8] 0 4 ∧
    ∃ t, exec .ccf s = .next t ∧ t.flags = ⟨s.flags.z, false, false, !s.flags.c⟩ ∧ Within { flags := true } s t

/-- `ADD SP,e8` (R327), `LD HL,SP+e8` (R328), `LD SP,HL` (R329): H and C "only from the low byte". -/
def Obligations.StackPointerArithmetic : Prop :=
  ∀ (e8 : Byte) (s : State),
    let flags : Flags :=
      ⟨false, false, decide (16 ≤ s.sp.toNat % 16 + e8.toNat % 16), decide (256 ≤ s.sp.toNat % 256 + e8.toNat)⟩
    Coded (.addSpE8 e8) [0xE8#8, e8] 8 16 ∧
    (∃ t, exec (.addSpE8 e8) s = .next t ∧ (t.sp.toNat : Int) = ((s.sp.toNat : Int) + e8.toInt) % 65536 ∧
      t.flags = flags ∧ Within { sp := true, flags := true, cycles := 8 } s t) ∧
    Coded (.ldHlSpE8 e8) [0xF8#8, e8] 4 12 ∧
    (∃ t, exec (.ldHlSpE8 e8) s = .next t ∧ (t.hl.toNat : Int) = ((s.sp.toNat : Int) + e8.toInt) % 65536 ∧
      t.flags = flags ∧ Within { regs := [.h, .l], flags := true, cycles := 4 } s t) ∧
    Coded .ldSpHl [0xF9#8] 4 8 ∧
    ∃ t, exec .ldSpHl s = .next t ∧ t.sp = s.hl ∧ Within { sp := true, cycles := 4 } s t

/-! ### The CB map -/

/-- `RLC`, `RRC`, `RL`, `RR` (R370 to R377). -/
def Obligations.Rotates : Prop :=
  ∀ (op : RotOp) (o : Operand8) (s : State), op ∈ [.rlc, .rrc, .rl, .rr] →
    let r := rotResult op (s.readOperand8 o).1.toNat s.flags.c
    Coded (instrRot op o) [0xCB#8, BitVec.ofNat 8 (8 * op.index + o.index)] (2 * o.cycles) (8 + 2 * o.cycles) ∧
    ∃ t, exec (instrRot op o) s = .next t ∧ r.1 < 256 ∧ Written o (BitVec.ofNat 8 r.1) 2 s t ∧
      t.flags = ⟨decide (r.1 = 0), false, false, r.2⟩ ∧
      Within { regs := o.regs, flags := true, stores := s.operandStores o, cycles := 2 * o.cycles } s t

/-- `SLA`, `SRA`, `SWAP`, `SRL` (R378 to R385). -/
def Obligations.ShiftsAndSwap : Prop :=
  ∀ (op : RotOp) (o : Operand8) (s : State), op ∈ [.sla, .sra, .swap, .srl] →
    let r := rotResult op (s.readOperand8 o).1.toNat s.flags.c
    Coded (instrRot op o) [0xCB#8, BitVec.ofNat 8 (8 * op.index + o.index)] (2 * o.cycles) (8 + 2 * o.cycles) ∧
    ∃ t, exec (instrRot op o) s = .next t ∧ r.1 < 256 ∧ Written o (BitVec.ofNat 8 r.1) 2 s t ∧
      t.flags = ⟨decide (r.1 = 0), false, false, r.2⟩ ∧
      Within { regs := o.regs, flags := true, stores := s.operandStores o, cycles := 2 * o.cycles } s t

/-- `BIT b,x` (R386, R387): Z from the bit, N false, H true, C kept; nothing is written back. -/
def Obligations.BitTests : Prop :=
  ∀ (b : Field3) (o : Operand8) (s : State),
    Coded (instrBit b o) [0xCB#8, BitVec.ofNat 8 (0x40 + 8 * b.toNat + o.index)] o.cycles (8 + o.cycles) ∧
    ∃ t, exec (instrBit b o) s = .next t ∧
      t.flags = ⟨!(s.readOperand8 o).1.getLsbD b.toNat, false, true, s.flags.c⟩ ∧
      Within { flags := true, cycles := o.cycles } s t

/-- `RES b,x` (R388, R389) clears one bit, `SET b,x` (R390, R391) sets it; no flag is written. -/
def Obligations.BitResetsAndSets : Prop :=
  ∀ (b : Field3) (o : Operand8) (s : State),
    let v := (s.readOperand8 o).1
    let frame : Footprint := { regs := o.regs, stores := s.operandStores o, cycles := 2 * o.cycles }
    Coded (instrRes b o) [0xCB#8, BitVec.ofNat 8 (0x80 + 8 * b.toNat + o.index)] (2 * o.cycles) (8 + 2 * o.cycles) ∧
    (∃ t w, exec (instrRes b o) s = .next t ∧ Written o w 2 s t ∧
      (∀ k < 8, w.getLsbD k = (v.getLsbD k && decide (k ≠ b.toNat))) ∧ Within frame s t) ∧
    Coded (instrSet b o) [0xCB#8, BitVec.ofNat 8 (0xC0 + 8 * b.toNat + o.index)] (2 * o.cycles) (8 + 2 * o.cycles) ∧
    ∃ t w, exec (instrSet b o) s = .next t ∧ Written o w 2 s t ∧
      (∀ k < 8, w.getLsbD k = (v.getLsbD k || decide (k = b.toNat))) ∧ Within frame s t

/-- `PREFIX CB` (R332): the second byte is fetched and its row of the CB map runs, as one instruction. -/
def Obligations.PrefixRunsTheCbRow : Prop :=
  ∀ (s : State) (op2 : Byte),
    encode (cbInstr op2) = [0xCB#8, op2] ∧
    (s.fetch8.1 = op2 → ∃ t u, s.fetch8.2 = t ∧ t.pc = s.pc + 1 ∧ Within { pc := true, cycles := 4 } s t ∧
      exec .prefixCb s = .next u ∧ exec (cbInstr op2) t = .next u)

/-! ### Control flow -/

/-- `JR e8` (R226), `JR cc,e8` (R227): the displacement is signed and is added to PC as the fetch left it, which is the
address after the JR, but right after a buggy HALT one lower (DESIGN CHOICE, log 26). -/
def Obligations.RelativeJumps : Prop :=
  ∀ (cc : Cond) (e8 : Byte) (s : State),
    let jumps (t : State) : Prop :=
      (t.pc.toNat : Int) = ((s.pc.toNat : Int) + e8.toInt) % 65536 ∧ Within { pc := true, cycles := 4 } s t
    (condHolds .nz s.flags = !s.flags.z ∧ condHolds .z s.flags = s.flags.z ∧ condHolds .nc s.flags = !s.flags.c ∧
      condHolds .c s.flags = s.flags.c) ∧
    Coded (.jrE8 e8) [0x18#8, e8] 4 12 ∧ (∃ t, exec (.jrE8 e8) s = .next t ∧ jumps t) ∧
    Coded (instrJrCc cc e8) [BitVec.ofNat 8 (0x20 + 8 * cc.index), e8] 4 12 ∧
    (condHolds cc s.flags = true → ∃ t, exec (instrJrCc cc e8) s = .next t ∧ jumps t) ∧
    (condHolds cc s.flags = false → exec (instrJrCc cc e8) s = .next s ∧ 4 * bytesRead (instrJrCc cc e8) = 8)

/-- `JP cc,n16` (R303), `JP n16` (R304), `JP HL` (R305). -/
def Obligations.AbsoluteJumps : Prop :=
  ∀ (cc : Cond) (n16 : Word) (s : State),
    let jumps (t : State) : Prop := t.pc = n16 ∧ Within { pc := true, cycles := 4 } s t
    Coded (.jpN16 n16) [0xC3#8, loByte n16, hiByte n16] 4 16 ∧ (∃ t, exec (.jpN16 n16) s = .next t ∧ jumps t) ∧
    Coded (instrJpCc cc n16) [BitVec.ofNat 8 (0xC2 + 8 * cc.index), loByte n16, hiByte n16] 4 16 ∧
    (condHolds cc s.flags = true → ∃ t, exec (instrJpCc cc n16) s = .next t ∧ jumps t) ∧
    (condHolds cc s.flags = false → exec (instrJpCc cc n16) s = .next s ∧ 4 * bytesRead (instrJpCc cc n16) = 12) ∧
    Coded .jpHl [0xE9#8] 0 4 ∧ ∃ t, exec .jpHl s = .next t ∧ t.pc = s.hl ∧ Within { pc := true } s t

/-- `CALL cc,n16` (R306), `CALL n16` (R307), `RST vec` (R308): PC as the fetch left it is pushed, high byte first; it is the address
after the instruction, but right after a buggy HALT one lower (DESIGN CHOICE, log 26). -/
def Obligations.CallsAndRestarts : Prop :=
  ∀ (cc : Cond) (n16 : Word) (y : Field3) (s : State),
    let calls (target : Nat) (t : State) : Prop :=
      t.pc.toNat = target ∧ t.sp = s.sp - 2 ∧
      Stored (s.sp - 1) (hiByte s.pc) 3 s t ∧ Stored (s.sp - 2) (loByte s.pc) 3 s t ∧
      Within { sp := true, pc := true, stores := [s.sp - 1, s.sp - 2], cycles := 12 } s t
    Coded (.callN16 n16) [0xCD#8, loByte n16, hiByte n16] 12 24 ∧
    (∃ t, exec (.callN16 n16) s = .next t ∧ calls n16.toNat t) ∧
    Coded (instrCallCc cc n16) [BitVec.ofNat 8 (0xC4 + 8 * cc.index), loByte n16, hiByte n16] 12 24 ∧
    (condHolds cc s.flags = true → ∃ t, exec (instrCallCc cc n16) s = .next t ∧ calls n16.toNat t) ∧
    (condHolds cc s.flags = false → exec (instrCallCc cc n16) s = .next s ∧ 4 * bytesRead (instrCallCc cc n16) = 12) ∧
    Coded (instrRst y) [BitVec.ofNat 8 (0xC7 + 8 * y.toNat)] 12 16 ∧
    ∃ t, exec (instrRst y) s = .next t ∧ calls (8 * y.toNat) t

/-- `RET cc` (R300) and `RET` (R301): PC is popped; `RET cc` spends its condition step first. -/
def Obligations.ReturnsFromCalls : Prop :=
  ∀ (cc : Cond) (s : State),
    Coded .ret [0xC9#8] 12 16 ∧
    (∃ t, exec .ret s = .next t ∧ t.pc = s.pop16.1 ∧ t.sp = s.sp + 2 ∧
      Within { sp := true, pc := true, cycles := 12 } s t) ∧
    Coded (instrRetCc cc) [BitVec.ofNat 8 (0xC0 + 8 * cc.index)] 16 20 ∧
    (condHolds cc s.flags = true → ∃ t, exec (instrRetCc cc) s = .next t ∧ t.pc = s.internal.pop16.1 ∧ t.sp = s.sp + 2 ∧
      Within { sp := true, pc := true, cycles := 16 } s t) ∧
    (condHolds cc s.flags = false → ∃ t, exec (instrRetCc cc) s = .next t ∧ Within { cycles := 4 } s t ∧
      4 * bytesRead (instrRetCc cc) + 4 = 8)

/-- `RETI` (R302): a return that sets `ime` and `ime_next` at once, so that a request pending at the next boundary is dispatched
there, in both orders of the interrupt check. -/
def Obligations.ReturnFromInterrupt : Prop :=
  ∀ s : State,
    Coded .reti [0xD9#8] 12 16 ∧
    ∃ t, exec .reti s = .next t ∧ t.pc = s.pop16.1 ∧ t.sp = s.sp + 2 ∧ t.ime = true ∧ t.imeNext = true ∧
      Within { sp := true, pc := true, ime := true, cycles := 12 } s t ∧
      ∀ i : Fin 5, (t.irqEnable &&& t.irqFlags).getLsbD i.val = true →
        (∀ j < i.val, (t.irqEnable &&& t.irqFlags).getLsbD j = false) →
        t.interruptCheck = State.dispatchInterrupt i { t with halted := false }

/-- `POP r16stk` (R309, R310): the low byte comes from [SP], the high byte from [SP+1]; `POP AF` writes A and the four flags.
That `pop16` is the two bytes at SP holds on the model's own bus, with an empty script (DESIGN CHOICE, log 1). -/
def Obligations.PopsFromTheStack : Prop :=
  ∀ (p : R16stk) (s : State),
    Coded (instrPop p) [BitVec.ofNat 8 (0xC1 + 16 * p.index)] 8 12 ∧
    (s.env = [] → s.sp ≠ ifAddr → s.sp ≠ ieAddr → s.sp + 1 ≠ ifAddr → s.sp + 1 ≠ ieAddr →
      s.pop16.1 = wordOf (s.byteAt (s.sp + 1)) (s.byteAt s.sp)) ∧
    ∃ t, exec (instrPop p) s = .next t ∧ t.sp = s.sp + 2 ∧ (p ≠ .af → t.r16stk p = s.pop16.1) ∧
      (p = .af → t.a = hiByte s.pop16.1 ∧
        t.flags = ⟨s.pop16.1.getLsbD 7, s.pop16.1.getLsbD 6, s.pop16.1.getLsbD 5, s.pop16.1.getLsbD 4⟩) ∧
      Within { regs := p.halves, flags := decide (p = .af), sp := true, cycles := 8 } s t

/-- `PUSH r16stk` (R311, R312): the high byte at SP-1, the low byte at SP-2; AF's low byte is the packed flags. -/
def Obligations.PushesToTheStack : Prop :=
  ∀ (p : R16stk) (s : State),
    Coded (instrPush p) [BitVec.ofNat 8 (0xC5 + 16 * p.index)] 12 16 ∧
    s.af.toNat =
      s.a.toNat * 256 + s.flags.z.toNat * 128 + s.flags.n.toNat * 64 + s.flags.h.toNat * 32 + s.flags.c.toNat * 16 ∧
    ∃ t, exec (instrPush p) s = .next t ∧ t.sp = s.sp - 2 ∧
      Stored (s.sp - 1) (hiByte (s.r16stk p)) 3 s t ∧ Stored (s.sp - 2) (loByte (s.r16stk p)) 3 s t ∧
      Within { sp := true, stores := [s.sp - 1, s.sp - 2], cycles := 12 } s t

/-- On a RAM stack, POP gives back what PUSH pushed and SP returns, registers and flags kept; a `POP AF` of BC loses the low
nibble (R33, R34). -/
def Obligations.PopGivesBackWhatPushPushed : Prop :=
  ∀ (p : R16stk) (s : State), s.env = [] → s.sp - 1 ≠ ifAddr → s.sp - 1 ≠ ieAddr → s.sp - 2 ≠ ifAddr →
    s.sp - 2 ≠ ieAddr →
    (∃ t u, exec (instrPush p) s = .next t ∧ exec (instrPop p) t = .next u ∧ u.sp = s.sp ∧ u.flags = s.flags ∧
      ∀ r, u.reg8 r = s.reg8 r) ∧
    ∃ t u, exec .pushBc s = .next t ∧ exec .popAf t = .next u ∧ u.af = s.bc &&& 0xFFF0#16

/-! ### Machine control -/

/-- `STOP` (R230, R403): toggles the speed mode when a switch is pending and skips the second byte, whatever it is; else it records
`UnimplementedSystemMode` at its own address, where PC then is. A whole step that raises it does nothing but the opcode fetch and that
(R400), also after a buggy HALT (DEDUCED, log 18). That the raising STOP answers a next state is the model's reading (DEDUCED,
log 10). That a switching STOP adds 1 to PC right after a buggy HALT too, where PC is at the STOP and the byte after it is then run, is
the model's choice (DESIGN CHOICE, log 26), and so is that a switch armed in the turn after STOP's own opcode fetch counts for it
(DESIGN CHOICE, log 27). -/
def Obligations.StopSwitchesOrFaults : Prop :=
  ∀ (skipped : Byte) (rest : List Byte) (s : State),
    decode (0x10#8 :: skipped :: rest) = .instr .stop rest ∧ 4 * bytesRead .stop = 4 ∧
    (s.speedSwitchPending = true →
      exec .stop s =
        .next { s with doubleSpeed := !s.doubleSpeed, speedSwitchPending := false, pc := s.pc + 1 }) ∧
    (s.speedSwitchPending = false →
      exec .stop s = .next { s with pc := s.opcodePc, fault := some (.unimplementedSystemMode s.opcodePc) }) ∧
    let s1 := s.interruptCheck
    let fetched := (s1.memRead s1.pc).2
    (Safe s → s1.halted = false → (s1.memRead s1.pc).1 = 0x10#8 → fetched.speedSwitchPending = false →
      step s =
        .next
          { fetched with
            haltBugPending := s1.haltBugPending && !s1.params.haltBug
            opcodePc := s1.pc
            fault := some (.unimplementedSystemMode s1.pc) })

/-- `HALT` (R253), in both variants of the HALT bug. The requests it tests are those after its opcode fetch and the environment's turn
(DESIGN CHOICE, log 27). -/
def Obligations.HaltInstruction : Prop :=
  ∀ s : State,
    Coded .halt [0x76#8] 0 4 ∧
    (s.params.haltBug = true ∧ s.ime = false ∧ s.irqEnable &&& s.irqFlags ≠ 0#5 →
      exec .halt s = .next { s with haltBugPending := true }) ∧
    (s.params.haltBug = false ∨ s.ime = true ∨ s.irqEnable &&& s.irqFlags = 0#5 →
      exec .halt s = .next { s with halted := true })

/-- `DI` (R330) clears both at once; `EI` (R331) sets `ime_next` only. -/
def Obligations.InterruptEnableAndDisable : Prop :=
  ∀ s : State,
    Coded .di [0xF3#8] 0 4 ∧ exec .di s = .next { s with ime := false, imeNext := false } ∧
    Coded .ei [0xFB#8] 0 4 ∧ exec .ei s = .next { s with imeNext := true }

/-- `ILLEGAL` (R333, R402): nothing but PC and `fault` changes, PC is at the opcode, and the step after it stops. A whole step that
raises it does nothing but the opcode fetch and that (R400), also after a buggy HALT (DEDUCED, log 18). That the raising instruction
answers a next state and the step after it stops is the model's reading (DEDUCED, log 10). -/
def Obligations.IllegalOpcodesFault : Prop :=
  ∀ (k : IllegalByte) (s : State),
    Coded (instrIllegal k) [k.opcode] 0 4 ∧
    ∃ t, exec (instrIllegal k) s = .next t ∧
      t = { s with pc := s.opcodePc, fault := some (.illegalOpcode s.opcodePc k.opcode) } ∧
      step t = .fault (.illegalOpcode s.opcodePc k.opcode) ∧
      let s1 := s.interruptCheck
      (Safe s → s1.halted = false → (s1.memRead s1.pc).1 = k.opcode →
        step s =
          .next
            { (s1.memRead s1.pc).2 with
              haltBugPending := s1.haltBugPending && !s1.params.haltBug
              opcodePc := s1.pc
              fault := some (.illegalOpcode s1.pc k.opcode) })

/-! ### Memory, time and the environment -/

/-- Where a byte access goes (R50, R71, R72): IF and IE at 0xFF0F and 0xFFFF, with free upper bits on a read; every other address
to the bus. A read changes nothing but the time it takes. -/
def Obligations.MemoryAccessRouting : Prop :=
  ∀ (addr : Word) (v : Byte) (s : State),
    (addr.toNat = 0xFF0F → (s.memRead addr).1 = Config.irqUpperBits s.draws ++ s.irqFlags) ∧
    (addr.toNat = 0xFFFF → (s.memRead addr).1 = Config.irqUpperBits s.draws ++ s.irqEnable) ∧
    (addr.toNat ≠ 0xFF0F → addr.toNat ≠ 0xFFFF →
      (s.env = [] → (s.memRead addr).1 = s.byteAt addr) ∧
      (∀ ev later, s.env = ev :: later → (s.memRead addr).1 = ev.answer.getD (s.byteAt addr))) ∧
    Within { cycles := 4 } s (s.memRead addr).2 ∧
    Stored addr v 1 s (s.memWrite addr v) ∧ Within { stores := [addr], cycles := 4 } s (s.memWrite addr v) ∧
    (addr.toNat = 0xFF0F ∨ addr.toNat = 0xFFFF → (s.memWrite addr v).mem = s.mem)

/-- What the environment's turn after a tick does (R410, R437, R450): exactly the requests and the arming its event names, and
nothing else. -/
def Obligations.EnvironmentTurn : Prop :=
  ∀ (ev : EnvEvent) (later : List EnvEvent) (s : State), s.env = ev :: later →
    let t := s.tick 4
    (∀ i : Fin 5, t.irqFlags.getLsbD i.val = (s.irqFlags.getLsbD i.val || decide (.raiseInterrupt i ∈ ev.actions))) ∧
    t.speedSwitchPending = (s.speedSwitchPending || decide (.armSpeedSwitch ∈ ev.actions)) ∧
    t.env = later ∧ Within { cycles := 4 } s t

/-- The cycles of every instruction (R481), halved in double speed (R482): after the interrupt check of an unfaulted core that is
then not halted, the step adds the table's cycles for the bytes it is answered. That an illegal opcode and a faulting STOP answer a
next state is the model's reading (DEDUCED, log 10). -/
def Obligations.CycleTable : Prop :=
  ∀ (s : State) (op op2 op3 : Byte), Safe s → s.interruptCheck.halted = false →
    s.interruptCheck.answeredBytes = [op, op2, op3] →
    let s1 := s.interruptCheck
    ∃ t, step s = .next t ∧ t.elapsed = s1.elapsed + scaledTicks s1.doubleSpeed (cycleCount op op2 s1.flags) ∧
      t.timestamp = s1.timestamp + scaledTicks s1.doubleSpeed (cycleCount op op2 s1.flags)

/-! ### Interrupts -/

/-- Dispatch (R422): the request is cleared, both enables are cleared, 20 cycles pass in three turns, PC is pushed high byte first,
PC goes to the vector. Nothing else changes, but for what the environment does in the turns (R450). -/
def Obligations.DispatchEntry : Prop :=
  ∀ (i : Fin 5) (s : State),
    let t := s.dispatchInterrupt i
    let cleared := s.irqFlags &&& ~~~(1#5 <<< i.val)
    t.pc.toNat = 0x40 + 8 * i.val ∧ t.ime = false ∧ t.imeNext = false ∧ t.sp = s.sp - 2 ∧
    Stored (s.sp - 1) (hiByte s.pc) 3 s t ∧ Stored (s.sp - 2) (loByte s.pc) 3 s t ∧
    (s.sp - 1 ≠ ifAddr → s.sp - 2 ≠ ifAddr →
      cleared &&& t.irqFlags = cleared ∧ (Quiet 3 s.env → t.irqFlags = cleared)) ∧
    (s.sp - 1 ≠ ieAddr → s.sp - 2 ≠ ieAddr → t.irqEnable = s.irqEnable) ∧
    (s.speedSwitchPending = true → t.speedSwitchPending = true) ∧
    (Quiet 3 s.env → t.speedSwitchPending = s.speedSwitchPending) ∧
    (∀ r, t.reg8 r = s.reg8 r) ∧ t.flags = s.flags ∧ t.halted = s.halted ∧ t.fault = s.fault ∧
    t.haltBugPending = s.haltBugPending ∧ t.doubleSpeed = s.doubleSpeed ∧ t.params = s.params ∧
    t.opcodePc = s.opcodePc ∧ (∀ a, a ≠ s.sp - 1 → a ≠ s.sp - 2 → t.byteAt a = s.byteAt a) ∧
    t.timestamp = s.timestamp + scaledTicks s.doubleSpeed 20 ∧ t.elapsed = s.elapsed + scaledTicks s.doubleSpeed 20 ∧
    t.env = s.env.drop 3

/-- The interrupt check (R421, R423, R424): the lowest pending source is dispatched when the gate of the parameter's order is open
(`ime_next` under DOC, `ime` under LATE); else nothing but `halted` and `ime` changes. The LATE order is R424's, marked in the spec as
general knowledge (D5); the priority is R423's. -/
def Obligations.LowestPendingIsDispatched : Prop :=
  ∀ s : State,
    let gate := match s.params.eiDispatchOrder with
      | .doc => s.imeNext
      | .late => s.ime
    (∀ i : Fin 5, gate = true → (s.irqEnable &&& s.irqFlags).getLsbD i.val = true →
      (∀ j < i.val, (s.irqEnable &&& s.irqFlags).getLsbD j = false) →
      s.interruptCheck = State.dispatchInterrupt i { s with halted := false }) ∧
    (gate = false ∨ s.irqEnable &&& s.irqFlags = 0#5 →
      s.interruptCheck =
        { s with ime := s.imeNext, halted := s.halted && decide (s.irqEnable &&& s.irqFlags = 0#5) })

/-- The EI window (R421, R424, R470): with an enabled source already pending, the boundary after EI dispatches under DOC, and
enables without dispatching under LATE. -/
def Obligations.EiWindowInBothOrders : Prop :=
  ∀ (s : State) (i : Fin 5), Safe s → s.halted = false → s.haltBugPending = false → s.env = [] → s.ime = false →
    s.imeNext = false → s.pc ≠ ifAddr → s.pc ≠ ieAddr → s.byteAt s.pc = 0xFB#8 →
    (s.irqEnable &&& s.irqFlags).getLsbD i.val = true →
    (∀ j < i.val, (s.irqEnable &&& s.irqFlags).getLsbD j = false) →
    ∃ t, step s = .next t ∧ t.pc = s.pc + 1 ∧ t.ime = false ∧ t.imeNext = true ∧
      (s.params.eiDispatchOrder = .doc → t.interruptCheck = State.dispatchInterrupt i t) ∧
      (s.params.eiDispatchOrder = .late → t.interruptCheck = { t with ime := true })

/-- A halted core with no enabled request pending (R431, R443): the step fetches nothing; time advances by the scheduler's answer,
not scaled; then the environment has its turn (R450), which can bring the request that ends HALT: exactly the requests and the arming
its event names. All else stays, `halted` and `irq_enable` among it. The script is the model's form (logs 3, 5). -/
def Obligations.HaltedStepOnlyWaits : Prop :=
  ∀ s : State, Safe s → s.halted = true → s.irqEnable &&& s.irqFlags = 0#5 →
    ∃ t k, step s = .next t ∧ t.halted = true ∧ t.pc = s.pc ∧ t.sp = s.sp ∧ (∀ r, t.reg8 r = s.reg8 r) ∧
      t.flags = s.flags ∧ t.mem = s.mem ∧ t.irqEnable = s.irqEnable ∧ t.fault = none ∧ t.doubleSpeed = s.doubleSpeed ∧
      t.ime = s.imeNext ∧ t.imeNext = s.imeNext ∧ t.haltBugPending = s.haltBugPending ∧ t.params = s.params ∧
      t.opcodePc = s.opcodePc ∧
      (∀ ev later, s.env = ev :: later →
        (∀ i : Fin 5,
          t.irqFlags.getLsbD i.val = (s.irqFlags.getLsbD i.val || decide (.raiseInterrupt i ∈ ev.actions))) ∧
        t.speedSwitchPending = (s.speedSwitchPending || decide (.armSpeedSwitch ∈ ev.actions))) ∧
      (Quiet 1 s.env → t.irqFlags = s.irqFlags ∧ t.speedSwitchPending = s.speedSwitchPending) ∧
      t.env = s.env.drop 1 ∧
      t.timestamp = s.timestamp + k ∧ t.elapsed = s.elapsed + k ∧
      (∀ ev later n, s.env = ev :: later → ev.schedule = some n → k = BitVec.toNat n) ∧
      (∀ ev later, s.env = ev :: later → ev.schedule = none → k = (Config.schedulerAnswer s.draws).toNat) ∧
      (s.env = [] → k = (Config.schedulerAnswer s.draws).toNat)

/-- Interrupts are precise (R425, R426): on a RAM stack, RETI right after a dispatch resumes the interrupted program with every
register and flag and SP as they were, and interrupts enabled. -/
def Obligations.ReturnResumesTheInterruptedProgram : Prop :=
  ∀ (i : Fin 5) (s : State), s.env = [] → s.sp - 1 ≠ ifAddr → s.sp - 1 ≠ ieAddr → s.sp - 2 ≠ ifAddr →
    s.sp - 2 ≠ ieAddr →
    ∃ t, exec .reti (s.dispatchInterrupt i) = .next t ∧ t.pc = s.pc ∧ t.sp = s.sp ∧ (∀ r, t.reg8 r = s.reg8 r) ∧
      t.flags = s.flags ∧ t.ime = true ∧ t.imeNext = true

/-! ### The run -/

/-- `run` (R443, R446): it returns at once with `elapsed` 0 when faulted or given no budget, and overshoots the budget by at most
43 cycles (one dispatch of 20 and one instruction of 24 begun below it). -/
def Obligations.RunReturns : Prop :=
  ∀ (fuel budget : Nat) (s : State),
    (¬ Safe s ∨ budget = 0 → run fuel budget s = .next { s with elapsed := 0 }) ∧
    ∃ t, run fuel budget s = .next t ∧ t.elapsed ≤ budget + 43
end

