-- ==== Sys2Proof/Laws/Decode.lean ====
section
/-! SUPPORT. The opcode maps row by row: what the encoder writes for the instruction of each row of the decoder's maps. -/

namespace Sys2Proof

/-- A CB row is written as 0xCB and its second byte (30_encoding.md R103, R125). -/
theorem encode_cbInstr : ∀ op2 : Byte, encode (cbInstr op2) = [0xCB#8, op2] := by decide

/-- A CB row is a complete instruction. -/
theorem cb_wf : ∀ op2 : Byte, WellFormed (cbInstr op2) = true ∧ cbInstr op2 ≠ .stop := by decide

/-- The encoder's word for the row of an opcode byte, for the rows with no immediate. -/
def rowOk (op : Byte) : Bool :=
  match primaryRow op with
  | .plain i => decide (encode i = [op]) && WellFormed i && decide (i ≠ .stop)
  | .skipping i => decide (i = .stop) && decide (op = 0x10#8)
  | .cbEscape => decide (op = 0xCB#8)
  | .imm8 _ => true
  | .imm16 _ => true

theorem rowOk_all : ∀ op : Byte, rowOk op = true := by decide

/-- A row of one byte. -/
theorem row_plain {op : Byte} {i : Instr} (h : primaryRow op = .plain i) :
    encode i = [op] ∧ WellFormed i = true ∧ i ≠ .stop := by
  have := rowOk_all op
  simp only [rowOk, h, Bool.and_eq_true, decide_eq_true_eq] at this
  exact ⟨this.1.1, this.1.2, this.2⟩

/-- The one row that skips a byte is STOP (R101, R230). -/
theorem row_skip {op : Byte} {i : Instr} (h : primaryRow op = .skipping i) : i = .stop ∧ op = 0x10#8 := by
  have := rowOk_all op
  simpa [rowOk, h] using this

/-- The one escape byte is 0xCB (R132). -/
theorem row_cb {op : Byte} (h : primaryRow op = .cbEscape) : op = 0xCB#8 := by
  have := rowOk_all op
  simpa [rowOk, h] using this

/-- A row with a one-byte immediate. -/
theorem row_imm8 : ∀ (op : Byte) (f : Byte → Instr), primaryRow op = .imm8 f →
    ∀ n, encode (f n) = [op, n] ∧ WellFormed (f n) = true ∧ f n ≠ .stop := by
  intro op
  have : op = BitVec.ofNat 8 op.toNat := by simp
  have hlt := op.isLt
  generalize op.toNat = k at *
  subst this
  interval_cases k <;> intro f h n <;> first | (cases h; exact ⟨rfl, rfl, nofun⟩) | (injection h)

/-- A row with a two-byte immediate, low byte first. -/
theorem row_imm16 : ∀ (op : Byte) (f : Word → Instr), primaryRow op = .imm16 f →
    ∀ n, encode (f n) = [op, loByte n, hiByte n] ∧ WellFormed (f n) = true ∧ f n ≠ .stop := by
  intro op
  have : op = BitVec.ofNat 8 op.toNat := by simp
  have hlt := op.isLt
  generalize op.toNat = k at *
  subst this
  interval_cases k <;> intro f h n <;> first | (cases h; exact ⟨rfl, rfl, nofun⟩) | (injection h)

end Sys2Proof
end

