-- ==== Sys2Proof/Laws/Families.lean ====
section
/-! SUPPORT. The rows of the opcode table by family: a claim about every instruction is a claim about every family, and `exec` runs
one operation per family. -/

namespace Sys2Proof

/-- A claim about every instruction, family by family. -/
theorem Instr.byFamily {P : Instr → Prop}
    (ldR16N16Row : ∀ (x : R16) (i : Word), P (instrLdR16N16 x i))
    (ldAtR16memARow : ∀ (x : R16mem), P (instrLdAtR16memA x))
    (ldAAtR16memRow : ∀ (x : R16mem), P (instrLdAAtR16mem x))
    (incR16Row : ∀ (x : R16), P (instrIncR16 x))
    (decR16Row : ∀ (x : R16), P (instrDecR16 x))
    (addHlRow : ∀ (x : R16), P (instrAddHl x))
    (inc8Row : ∀ (x : Operand8), P (instrInc8 x))
    (dec8Row : ∀ (x : Operand8), P (instrDec8 x))
    (ldN8Row : ∀ (x : Operand8) (i : Byte), P (instrLdN8 x i))
    (rotARow : ∀ (x : RotAOp), P (instrRotA x))
    (jrCcRow : ∀ (x : Cond) (i : Byte), P (instrJrCc x i))
    (ldRRRow : ∀ (x : Reg8) (y : Reg8), P (instrLdRR x y))
    (ldRAtHlRow : ∀ (x : Reg8), P (instrLdRAtHl x))
    (ldAtHlRRow : ∀ (x : Reg8), P (instrLdAtHlR x))
    (aluRow : ∀ (x : AluOp) (y : Operand8), P (instrAlu x y))
    (aluN8Row : ∀ (x : AluOp) (i : Byte), P (instrAluN8 x i))
    (retCcRow : ∀ (x : Cond), P (instrRetCc x))
    (jpCcRow : ∀ (x : Cond) (i : Word), P (instrJpCc x i))
    (callCcRow : ∀ (x : Cond) (i : Word), P (instrCallCc x i))
    (rstRow : ∀ (x : Field3), P (instrRst x))
    (popRow : ∀ (x : R16stk), P (instrPop x))
    (pushRow : ∀ (x : R16stk), P (instrPush x))
    (illegalRow : ∀ (x : IllegalByte), P (instrIllegal x))
    (rotRow : ∀ (x : RotOp) (y : Operand8), P (instrRot x y))
    (bitRow : ∀ (x : Field3) (y : Operand8), P (instrBit x y))
    (resRow : ∀ (x : Field3) (y : Operand8), P (instrRes x y))
    (setRow : ∀ (x : Field3) (y : Operand8), P (instrSet x y))
    (nopRow : P .nop)
    (ldAtN16SpRow : ∀ i : Word, P (.ldAtN16Sp i))
    (stopRow : P .stop)
    (jrE8Row : ∀ i : Byte, P (.jrE8 i))
    (daaRow : P .daa)
    (cplRow : P .cpl)
    (scfRow : P .scf)
    (ccfRow : P .ccf)
    (jpN16Row : ∀ i : Word, P (.jpN16 i))
    (retRow : P .ret)
    (prefixCbRow : P .prefixCb)
    (callN16Row : ∀ i : Word, P (.callN16 i))
    (retiRow : P .reti)
    (ldhAtN8ARow : ∀ i : Byte, P (.ldhAtN8A i))
    (ldhAtCARow : P .ldhAtCA)
    (addSpE8Row : ∀ i : Byte, P (.addSpE8 i))
    (jpHlRow : P .jpHl)
    (ldAtN16ARow : ∀ i : Word, P (.ldAtN16A i))
    (ldhAAtN8Row : ∀ i : Byte, P (.ldhAAtN8 i))
    (ldhAAtCRow : P .ldhAAtC)
    (diRow : P .di)
    (ldHlSpE8Row : ∀ i : Byte, P (.ldHlSpE8 i))
    (ldSpHlRow : P .ldSpHl)
    (ldAAtN16Row : ∀ i : Word, P (.ldAAtN16 i))
    (eiRow : P .ei)
    (haltRow : P .halt) :
    ∀ i, P i
  | .nop => nopRow
  | .ldBcN16 i => ldR16N16Row .bc i
  | .ldAtBcA => ldAtR16memARow .bc
  | .incBc => incR16Row .bc
  | .incB => inc8Row (.reg .b)
  | .decB => dec8Row (.reg .b)
  | .ldBN8 i => ldN8Row (.reg .b) i
  | .rlca => rotARow .rlca
  | .ldAtN16Sp i => ldAtN16SpRow i
  | .addHlBc => addHlRow .bc
  | .ldAAtBc => ldAAtR16memRow .bc
  | .decBc => decR16Row .bc
  | .incC => inc8Row (.reg .c)
  | .decC => dec8Row (.reg .c)
  | .ldCN8 i => ldN8Row (.reg .c) i
  | .rrca => rotARow .rrca
  | .stop => stopRow
  | .ldDeN16 i => ldR16N16Row .de i
  | .ldAtDeA => ldAtR16memARow .de
  | .incDe => incR16Row .de
  | .incD => inc8Row (.reg .d)
  | .decD => dec8Row (.reg .d)
  | .ldDN8 i => ldN8Row (.reg .d) i
  | .rla => rotARow .rla
  | .jrE8 i => jrE8Row i
  | .addHlDe => addHlRow .de
  | .ldAAtDe => ldAAtR16memRow .de
  | .decDe => decR16Row .de
  | .incE => inc8Row (.reg .e)
  | .decE => dec8Row (.reg .e)
  | .ldEN8 i => ldN8Row (.reg .e) i
  | .rra => rotARow .rra
  | .jrNzE8 i => jrCcRow .nz i
  | .ldHlN16 i => ldR16N16Row .hl i
  | .ldAtHlIncA => ldAtR16memARow .hlInc
  | .incHl => incR16Row .hl
  | .incH => inc8Row (.reg .h)
  | .decH => dec8Row (.reg .h)
  | .ldHN8 i => ldN8Row (.reg .h) i
  | .daa => daaRow
  | .jrZE8 i => jrCcRow .z i
  | .addHlHl => addHlRow .hl
  | .ldAAtHlInc => ldAAtR16memRow .hlInc
  | .decHl => decR16Row .hl
  | .incL => inc8Row (.reg .l)
  | .decL => dec8Row (.reg .l)
  | .ldLN8 i => ldN8Row (.reg .l) i
  | .cpl => cplRow
  | .jrNcE8 i => jrCcRow .nc i
  | .ldSpN16 i => ldR16N16Row .sp i
  | .ldAtHlDecA => ldAtR16memARow .hlDec
  | .incSp => incR16Row .sp
  | .incAtHl => inc8Row .atHl
  | .decAtHl => dec8Row .atHl
  | .ldAtHlN8 i => ldN8Row .atHl i
  | .scf => scfRow
  | .jrCE8 i => jrCcRow .c i
  | .addHlSp => addHlRow .sp
  | .ldAAtHlDec => ldAAtR16memRow .hlDec
  | .decSp => decR16Row .sp
  | .incA => inc8Row (.reg .a)
  | .decA => dec8Row (.reg .a)
  | .ldAN8 i => ldN8Row (.reg .a) i
  | .ccf => ccfRow
  | .retNz => retCcRow .nz
  | .popBc => popRow .bc
  | .jpNzN16 i => jpCcRow .nz i
  | .jpN16 i => jpN16Row i
  | .callNzN16 i => callCcRow .nz i
  | .pushBc => pushRow .bc
  | .addAN8 i => aluN8Row .add i
  | .rst00 => rstRow .f0
  | .retZ => retCcRow .z
  | .ret => retRow
  | .jpZN16 i => jpCcRow .z i
  | .prefixCb => prefixCbRow
  | .callZN16 i => callCcRow .z i
  | .callN16 i => callN16Row i
  | .adcAN8 i => aluN8Row .adc i
  | .rst08 => rstRow .f1
  | .retNc => retCcRow .nc
  | .popDe => popRow .de
  | .jpNcN16 i => jpCcRow .nc i
  | .illegalD3 => illegalRow .d3
  | .callNcN16 i => callCcRow .nc i
  | .pushDe => pushRow .de
  | .subAN8 i => aluN8Row .sub i
  | .rst10 => rstRow .f2
  | .retC => retCcRow .c
  | .reti => retiRow
  | .jpCN16 i => jpCcRow .c i
  | .illegalDB => illegalRow .db
  | .callCN16 i => callCcRow .c i
  | .illegalDD => illegalRow .dd
  | .sbcAN8 i => aluN8Row .sbc i
  | .rst18 => rstRow .f3
  | .ldhAtN8A i => ldhAtN8ARow i
  | .popHl => popRow .hl
  | .ldhAtCA => ldhAtCARow
  | .illegalE3 => illegalRow .e3
  | .illegalE4 => illegalRow .e4
  | .pushHl => pushRow .hl
  | .andAN8 i => aluN8Row .and i
  | .rst20 => rstRow .f4
  | .addSpE8 i => addSpE8Row i
  | .jpHl => jpHlRow
  | .ldAtN16A i => ldAtN16ARow i
  | .illegalEB => illegalRow .eb
  | .illegalEC => illegalRow .ec
  | .illegalED => illegalRow .ed
  | .xorAN8 i => aluN8Row .xor i
  | .rst28 => rstRow .f5
  | .ldhAAtN8 i => ldhAAtN8Row i
  | .popAf => popRow .af
  | .ldhAAtC => ldhAAtCRow
  | .di => diRow
  | .illegalF4 => illegalRow .f4
  | .pushAf => pushRow .af
  | .orAN8 i => aluN8Row .or i
  | .rst30 => rstRow .f6
  | .ldHlSpE8 i => ldHlSpE8Row i
  | .ldSpHl => ldSpHlRow
  | .ldAAtN16 i => ldAAtN16Row i
  | .ei => eiRow
  | .illegalFC => illegalRow .fc
  | .illegalFD => illegalRow .fd
  | .cpAN8 i => aluN8Row .cp i
  | .rst38 => rstRow .f7
  | .ldBB => ldRRRow .b .b
  | .ldBC => ldRRRow .b .c
  | .ldBD => ldRRRow .b .d
  | .ldBE => ldRRRow .b .e
  | .ldBH => ldRRRow .b .h
  | .ldBL => ldRRRow .b .l
  | .ldBAtHl => ldRAtHlRow .b
  | .ldBA => ldRRRow .b .a
  | .ldCB => ldRRRow .c .b
  | .ldCC => ldRRRow .c .c
  | .ldCD => ldRRRow .c .d
  | .ldCE => ldRRRow .c .e
  | .ldCH => ldRRRow .c .h
  | .ldCL => ldRRRow .c .l
  | .ldCAtHl => ldRAtHlRow .c
  | .ldCA => ldRRRow .c .a
  | .ldDB => ldRRRow .d .b
  | .ldDC => ldRRRow .d .c
  | .ldDD => ldRRRow .d .d
  | .ldDE => ldRRRow .d .e
  | .ldDH => ldRRRow .d .h
  | .ldDL => ldRRRow .d .l
  | .ldDAtHl => ldRAtHlRow .d
  | .ldDA => ldRRRow .d .a
  | .ldEB => ldRRRow .e .b
  | .ldEC => ldRRRow .e .c
  | .ldED => ldRRRow .e .d
  | .ldEE => ldRRRow .e .e
  | .ldEH => ldRRRow .e .h
  | .ldEL => ldRRRow .e .l
  | .ldEAtHl => ldRAtHlRow .e
  | .ldEA => ldRRRow .e .a
  | .ldHB => ldRRRow .h .b
  | .ldHC => ldRRRow .h .c
  | .ldHD => ldRRRow .h .d
  | .ldHE => ldRRRow .h .e
  | .ldHH => ldRRRow .h .h
  | .ldHL => ldRRRow .h .l
  | .ldHAtHl => ldRAtHlRow .h
  | .ldHA => ldRRRow .h .a
  | .ldLB => ldRRRow .l .b
  | .ldLC => ldRRRow .l .c
  | .ldLD => ldRRRow .l .d
  | .ldLE => ldRRRow .l .e
  | .ldLH => ldRRRow .l .h
  | .ldLL => ldRRRow .l .l
  | .ldLAtHl => ldRAtHlRow .l
  | .ldLA => ldRRRow .l .a
  | .ldAtHlB => ldAtHlRRow .b
  | .ldAtHlC => ldAtHlRRow .c
  | .ldAtHlD => ldAtHlRRow .d
  | .ldAtHlE => ldAtHlRRow .e
  | .ldAtHlH => ldAtHlRRow .h
  | .ldAtHlL => ldAtHlRRow .l
  | .halt => haltRow
  | .ldAtHlA => ldAtHlRRow .a
  | .ldAB => ldRRRow .a .b
  | .ldAC => ldRRRow .a .c
  | .ldAD => ldRRRow .a .d
  | .ldAE => ldRRRow .a .e
  | .ldAH => ldRRRow .a .h
  | .ldAL => ldRRRow .a .l
  | .ldAAtHl => ldRAtHlRow .a
  | .ldAA => ldRRRow .a .a
  | .addAB => aluRow .add (.reg .b)
  | .addAC => aluRow .add (.reg .c)
  | .addAD => aluRow .add (.reg .d)
  | .addAE => aluRow .add (.reg .e)
  | .addAH => aluRow .add (.reg .h)
  | .addAL => aluRow .add (.reg .l)
  | .addAAtHl => aluRow .add .atHl
  | .addAA => aluRow .add (.reg .a)
  | .adcAB => aluRow .adc (.reg .b)
  | .adcAC => aluRow .adc (.reg .c)
  | .adcAD => aluRow .adc (.reg .d)
  | .adcAE => aluRow .adc (.reg .e)
  | .adcAH => aluRow .adc (.reg .h)
  | .adcAL => aluRow .adc (.reg .l)
  | .adcAAtHl => aluRow .adc .atHl
  | .adcAA => aluRow .adc (.reg .a)
  | .subAB => aluRow .sub (.reg .b)
  | .subAC => aluRow .sub (.reg .c)
  | .subAD => aluRow .sub (.reg .d)
  | .subAE => aluRow .sub (.reg .e)
  | .subAH => aluRow .sub (.reg .h)
  | .subAL => aluRow .sub (.reg .l)
  | .subAAtHl => aluRow .sub .atHl
  | .subAA => aluRow .sub (.reg .a)
  | .sbcAB => aluRow .sbc (.reg .b)
  | .sbcAC => aluRow .sbc (.reg .c)
  | .sbcAD => aluRow .sbc (.reg .d)
  | .sbcAE => aluRow .sbc (.reg .e)
  | .sbcAH => aluRow .sbc (.reg .h)
  | .sbcAL => aluRow .sbc (.reg .l)
  | .sbcAAtHl => aluRow .sbc .atHl
  | .sbcAA => aluRow .sbc (.reg .a)
  | .andAB => aluRow .and (.reg .b)
  | .andAC => aluRow .and (.reg .c)
  | .andAD => aluRow .and (.reg .d)
  | .andAE => aluRow .and (.reg .e)
  | .andAH => aluRow .and (.reg .h)
  | .andAL => aluRow .and (.reg .l)
  | .andAAtHl => aluRow .and .atHl
  | .andAA => aluRow .and (.reg .a)
  | .xorAB => aluRow .xor (.reg .b)
  | .xorAC => aluRow .xor (.reg .c)
  | .xorAD => aluRow .xor (.reg .d)
  | .xorAE => aluRow .xor (.reg .e)
  | .xorAH => aluRow .xor (.reg .h)
  | .xorAL => aluRow .xor (.reg .l)
  | .xorAAtHl => aluRow .xor .atHl
  | .xorAA => aluRow .xor (.reg .a)
  | .orAB => aluRow .or (.reg .b)
  | .orAC => aluRow .or (.reg .c)
  | .orAD => aluRow .or (.reg .d)
  | .orAE => aluRow .or (.reg .e)
  | .orAH => aluRow .or (.reg .h)
  | .orAL => aluRow .or (.reg .l)
  | .orAAtHl => aluRow .or .atHl
  | .orAA => aluRow .or (.reg .a)
  | .cpAB => aluRow .cp (.reg .b)
  | .cpAC => aluRow .cp (.reg .c)
  | .cpAD => aluRow .cp (.reg .d)
  | .cpAE => aluRow .cp (.reg .e)
  | .cpAH => aluRow .cp (.reg .h)
  | .cpAL => aluRow .cp (.reg .l)
  | .cpAAtHl => aluRow .cp .atHl
  | .cpAA => aluRow .cp (.reg .a)
  | .rlcB => rotRow .rlc (.reg .b)
  | .rlcC => rotRow .rlc (.reg .c)
  | .rlcD => rotRow .rlc (.reg .d)
  | .rlcE => rotRow .rlc (.reg .e)
  | .rlcH => rotRow .rlc (.reg .h)
  | .rlcL => rotRow .rlc (.reg .l)
  | .rlcAtHl => rotRow .rlc .atHl
  | .rlcA => rotRow .rlc (.reg .a)
  | .rrcB => rotRow .rrc (.reg .b)
  | .rrcC => rotRow .rrc (.reg .c)
  | .rrcD => rotRow .rrc (.reg .d)
  | .rrcE => rotRow .rrc (.reg .e)
  | .rrcH => rotRow .rrc (.reg .h)
  | .rrcL => rotRow .rrc (.reg .l)
  | .rrcAtHl => rotRow .rrc .atHl
  | .rrcA => rotRow .rrc (.reg .a)
  | .rlB => rotRow .rl (.reg .b)
  | .rlC => rotRow .rl (.reg .c)
  | .rlD => rotRow .rl (.reg .d)
  | .rlE => rotRow .rl (.reg .e)
  | .rlH => rotRow .rl (.reg .h)
  | .rlL => rotRow .rl (.reg .l)
  | .rlAtHl => rotRow .rl .atHl
  | .rlA => rotRow .rl (.reg .a)
  | .rrB => rotRow .rr (.reg .b)
  | .rrC => rotRow .rr (.reg .c)
  | .rrD => rotRow .rr (.reg .d)
  | .rrE => rotRow .rr (.reg .e)
  | .rrH => rotRow .rr (.reg .h)
  | .rrL => rotRow .rr (.reg .l)
  | .rrAtHl => rotRow .rr .atHl
  | .rrA => rotRow .rr (.reg .a)
  | .slaB => rotRow .sla (.reg .b)
  | .slaC => rotRow .sla (.reg .c)
  | .slaD => rotRow .sla (.reg .d)
  | .slaE => rotRow .sla (.reg .e)
  | .slaH => rotRow .sla (.reg .h)
  | .slaL => rotRow .sla (.reg .l)
  | .slaAtHl => rotRow .sla .atHl
  | .slaA => rotRow .sla (.reg .a)
  | .sraB => rotRow .sra (.reg .b)
  | .sraC => rotRow .sra (.reg .c)
  | .sraD => rotRow .sra (.reg .d)
  | .sraE => rotRow .sra (.reg .e)
  | .sraH => rotRow .sra (.reg .h)
  | .sraL => rotRow .sra (.reg .l)
  | .sraAtHl => rotRow .sra .atHl
  | .sraA => rotRow .sra (.reg .a)
  | .swapB => rotRow .swap (.reg .b)
  | .swapC => rotRow .swap (.reg .c)
  | .swapD => rotRow .swap (.reg .d)
  | .swapE => rotRow .swap (.reg .e)
  | .swapH => rotRow .swap (.reg .h)
  | .swapL => rotRow .swap (.reg .l)
  | .swapAtHl => rotRow .swap .atHl
  | .swapA => rotRow .swap (.reg .a)
  | .srlB => rotRow .srl (.reg .b)
  | .srlC => rotRow .srl (.reg .c)
  | .srlD => rotRow .srl (.reg .d)
  | .srlE => rotRow .srl (.reg .e)
  | .srlH => rotRow .srl (.reg .h)
  | .srlL => rotRow .srl (.reg .l)
  | .srlAtHl => rotRow .srl .atHl
  | .srlA => rotRow .srl (.reg .a)
  | .bit0B => bitRow .f0 (.reg .b)
  | .bit0C => bitRow .f0 (.reg .c)
  | .bit0D => bitRow .f0 (.reg .d)
  | .bit0E => bitRow .f0 (.reg .e)
  | .bit0H => bitRow .f0 (.reg .h)
  | .bit0L => bitRow .f0 (.reg .l)
  | .bit0AtHl => bitRow .f0 .atHl
  | .bit0A => bitRow .f0 (.reg .a)
  | .bit1B => bitRow .f1 (.reg .b)
  | .bit1C => bitRow .f1 (.reg .c)
  | .bit1D => bitRow .f1 (.reg .d)
  | .bit1E => bitRow .f1 (.reg .e)
  | .bit1H => bitRow .f1 (.reg .h)
  | .bit1L => bitRow .f1 (.reg .l)
  | .bit1AtHl => bitRow .f1 .atHl
  | .bit1A => bitRow .f1 (.reg .a)
  | .bit2B => bitRow .f2 (.reg .b)
  | .bit2C => bitRow .f2 (.reg .c)
  | .bit2D => bitRow .f2 (.reg .d)
  | .bit2E => bitRow .f2 (.reg .e)
  | .bit2H => bitRow .f2 (.reg .h)
  | .bit2L => bitRow .f2 (.reg .l)
  | .bit2AtHl => bitRow .f2 .atHl
  | .bit2A => bitRow .f2 (.reg .a)
  | .bit3B => bitRow .f3 (.reg .b)
  | .bit3C => bitRow .f3 (.reg .c)
  | .bit3D => bitRow .f3 (.reg .d)
  | .bit3E => bitRow .f3 (.reg .e)
  | .bit3H => bitRow .f3 (.reg .h)
  | .bit3L => bitRow .f3 (.reg .l)
  | .bit3AtHl => bitRow .f3 .atHl
  | .bit3A => bitRow .f3 (.reg .a)
  | .bit4B => bitRow .f4 (.reg .b)
  | .bit4C => bitRow .f4 (.reg .c)
  | .bit4D => bitRow .f4 (.reg .d)
  | .bit4E => bitRow .f4 (.reg .e)
  | .bit4H => bitRow .f4 (.reg .h)
  | .bit4L => bitRow .f4 (.reg .l)
  | .bit4AtHl => bitRow .f4 .atHl
  | .bit4A => bitRow .f4 (.reg .a)
  | .bit5B => bitRow .f5 (.reg .b)
  | .bit5C => bitRow .f5 (.reg .c)
  | .bit5D => bitRow .f5 (.reg .d)
  | .bit5E => bitRow .f5 (.reg .e)
  | .bit5H => bitRow .f5 (.reg .h)
  | .bit5L => bitRow .f5 (.reg .l)
  | .bit5AtHl => bitRow .f5 .atHl
  | .bit5A => bitRow .f5 (.reg .a)
  | .bit6B => bitRow .f6 (.reg .b)
  | .bit6C => bitRow .f6 (.reg .c)
  | .bit6D => bitRow .f6 (.reg .d)
  | .bit6E => bitRow .f6 (.reg .e)
  | .bit6H => bitRow .f6 (.reg .h)
  | .bit6L => bitRow .f6 (.reg .l)
  | .bit6AtHl => bitRow .f6 .atHl
  | .bit6A => bitRow .f6 (.reg .a)
  | .bit7B => bitRow .f7 (.reg .b)
  | .bit7C => bitRow .f7 (.reg .c)
  | .bit7D => bitRow .f7 (.reg .d)
  | .bit7E => bitRow .f7 (.reg .e)
  | .bit7H => bitRow .f7 (.reg .h)
  | .bit7L => bitRow .f7 (.reg .l)
  | .bit7AtHl => bitRow .f7 .atHl
  | .bit7A => bitRow .f7 (.reg .a)
  | .res0B => resRow .f0 (.reg .b)
  | .res0C => resRow .f0 (.reg .c)
  | .res0D => resRow .f0 (.reg .d)
  | .res0E => resRow .f0 (.reg .e)
  | .res0H => resRow .f0 (.reg .h)
  | .res0L => resRow .f0 (.reg .l)
  | .res0AtHl => resRow .f0 .atHl
  | .res0A => resRow .f0 (.reg .a)
  | .res1B => resRow .f1 (.reg .b)
  | .res1C => resRow .f1 (.reg .c)
  | .res1D => resRow .f1 (.reg .d)
  | .res1E => resRow .f1 (.reg .e)
  | .res1H => resRow .f1 (.reg .h)
  | .res1L => resRow .f1 (.reg .l)
  | .res1AtHl => resRow .f1 .atHl
  | .res1A => resRow .f1 (.reg .a)
  | .res2B => resRow .f2 (.reg .b)
  | .res2C => resRow .f2 (.reg .c)
  | .res2D => resRow .f2 (.reg .d)
  | .res2E => resRow .f2 (.reg .e)
  | .res2H => resRow .f2 (.reg .h)
  | .res2L => resRow .f2 (.reg .l)
  | .res2AtHl => resRow .f2 .atHl
  | .res2A => resRow .f2 (.reg .a)
  | .res3B => resRow .f3 (.reg .b)
  | .res3C => resRow .f3 (.reg .c)
  | .res3D => resRow .f3 (.reg .d)
  | .res3E => resRow .f3 (.reg .e)
  | .res3H => resRow .f3 (.reg .h)
  | .res3L => resRow .f3 (.reg .l)
  | .res3AtHl => resRow .f3 .atHl
  | .res3A => resRow .f3 (.reg .a)
  | .res4B => resRow .f4 (.reg .b)
  | .res4C => resRow .f4 (.reg .c)
  | .res4D => resRow .f4 (.reg .d)
  | .res4E => resRow .f4 (.reg .e)
  | .res4H => resRow .f4 (.reg .h)
  | .res4L => resRow .f4 (.reg .l)
  | .res4AtHl => resRow .f4 .atHl
  | .res4A => resRow .f4 (.reg .a)
  | .res5B => resRow .f5 (.reg .b)
  | .res5C => resRow .f5 (.reg .c)
  | .res5D => resRow .f5 (.reg .d)
  | .res5E => resRow .f5 (.reg .e)
  | .res5H => resRow .f5 (.reg .h)
  | .res5L => resRow .f5 (.reg .l)
  | .res5AtHl => resRow .f5 .atHl
  | .res5A => resRow .f5 (.reg .a)
  | .res6B => resRow .f6 (.reg .b)
  | .res6C => resRow .f6 (.reg .c)
  | .res6D => resRow .f6 (.reg .d)
  | .res6E => resRow .f6 (.reg .e)
  | .res6H => resRow .f6 (.reg .h)
  | .res6L => resRow .f6 (.reg .l)
  | .res6AtHl => resRow .f6 .atHl
  | .res6A => resRow .f6 (.reg .a)
  | .res7B => resRow .f7 (.reg .b)
  | .res7C => resRow .f7 (.reg .c)
  | .res7D => resRow .f7 (.reg .d)
  | .res7E => resRow .f7 (.reg .e)
  | .res7H => resRow .f7 (.reg .h)
  | .res7L => resRow .f7 (.reg .l)
  | .res7AtHl => resRow .f7 .atHl
  | .res7A => resRow .f7 (.reg .a)
  | .set0B => setRow .f0 (.reg .b)
  | .set0C => setRow .f0 (.reg .c)
  | .set0D => setRow .f0 (.reg .d)
  | .set0E => setRow .f0 (.reg .e)
  | .set0H => setRow .f0 (.reg .h)
  | .set0L => setRow .f0 (.reg .l)
  | .set0AtHl => setRow .f0 .atHl
  | .set0A => setRow .f0 (.reg .a)
  | .set1B => setRow .f1 (.reg .b)
  | .set1C => setRow .f1 (.reg .c)
  | .set1D => setRow .f1 (.reg .d)
  | .set1E => setRow .f1 (.reg .e)
  | .set1H => setRow .f1 (.reg .h)
  | .set1L => setRow .f1 (.reg .l)
  | .set1AtHl => setRow .f1 .atHl
  | .set1A => setRow .f1 (.reg .a)
  | .set2B => setRow .f2 (.reg .b)
  | .set2C => setRow .f2 (.reg .c)
  | .set2D => setRow .f2 (.reg .d)
  | .set2E => setRow .f2 (.reg .e)
  | .set2H => setRow .f2 (.reg .h)
  | .set2L => setRow .f2 (.reg .l)
  | .set2AtHl => setRow .f2 .atHl
  | .set2A => setRow .f2 (.reg .a)
  | .set3B => setRow .f3 (.reg .b)
  | .set3C => setRow .f3 (.reg .c)
  | .set3D => setRow .f3 (.reg .d)
  | .set3E => setRow .f3 (.reg .e)
  | .set3H => setRow .f3 (.reg .h)
  | .set3L => setRow .f3 (.reg .l)
  | .set3AtHl => setRow .f3 .atHl
  | .set3A => setRow .f3 (.reg .a)
  | .set4B => setRow .f4 (.reg .b)
  | .set4C => setRow .f4 (.reg .c)
  | .set4D => setRow .f4 (.reg .d)
  | .set4E => setRow .f4 (.reg .e)
  | .set4H => setRow .f4 (.reg .h)
  | .set4L => setRow .f4 (.reg .l)
  | .set4AtHl => setRow .f4 .atHl
  | .set4A => setRow .f4 (.reg .a)
  | .set5B => setRow .f5 (.reg .b)
  | .set5C => setRow .f5 (.reg .c)
  | .set5D => setRow .f5 (.reg .d)
  | .set5E => setRow .f5 (.reg .e)
  | .set5H => setRow .f5 (.reg .h)
  | .set5L => setRow .f5 (.reg .l)
  | .set5AtHl => setRow .f5 .atHl
  | .set5A => setRow .f5 (.reg .a)
  | .set6B => setRow .f6 (.reg .b)
  | .set6C => setRow .f6 (.reg .c)
  | .set6D => setRow .f6 (.reg .d)
  | .set6E => setRow .f6 (.reg .e)
  | .set6H => setRow .f6 (.reg .h)
  | .set6L => setRow .f6 (.reg .l)
  | .set6AtHl => setRow .f6 .atHl
  | .set6A => setRow .f6 (.reg .a)
  | .set7B => setRow .f7 (.reg .b)
  | .set7C => setRow .f7 (.reg .c)
  | .set7D => setRow .f7 (.reg .d)
  | .set7E => setRow .f7 (.reg .e)
  | .set7H => setRow .f7 (.reg .h)
  | .set7L => setRow .f7 (.reg .l)
  | .set7AtHl => setRow .f7 .atHl
  | .set7A => setRow .f7 (.reg .a)

end Sys2Proof

namespace Sys2Proof.Machine

/-! ### What `exec` runs, family by family -/

@[simp] theorem exec_instrLdR16N16 (x : R16) (i : Word) (s : State) : exec (instrLdR16N16 x i) s = .next (runLdR16 x i s) := by
  cases x <;> rfl

@[simp] theorem exec_instrLdAtR16memA (x : R16mem) (s : State) : exec (instrLdAtR16memA x) s = .next (runLdToR16memA x s) := by
  cases x <;> rfl

@[simp] theorem exec_instrLdAAtR16mem (x : R16mem) (s : State) : exec (instrLdAAtR16mem x) s = .next (runLdAFromR16mem x s) := by
  cases x <;> rfl

@[simp] theorem exec_instrIncR16 (x : R16) (s : State) : exec (instrIncR16 x) s = .next (runIncR16 x s) := by
  cases x <;> rfl

@[simp] theorem exec_instrDecR16 (x : R16) (s : State) : exec (instrDecR16 x) s = .next (runDecR16 x s) := by
  cases x <;> rfl

@[simp] theorem exec_instrAddHl (x : R16) (s : State) : exec (instrAddHl x) s = .next (runAddHl x s) := by
  cases x <;> rfl

@[simp] theorem exec_instrInc8 (x : Operand8) (s : State) : exec (instrInc8 x) s = .next (runInc8 x s) := by
  cases x with
  | reg r => cases r <;> rfl
  | atHl => rfl

@[simp] theorem exec_instrDec8 (x : Operand8) (s : State) : exec (instrDec8 x) s = .next (runDec8 x s) := by
  cases x with
  | reg r => cases r <;> rfl
  | atHl => rfl

@[simp] theorem exec_instrLdN8 (x : Operand8) (i : Byte) (s : State) : exec (instrLdN8 x i) s = .next (runLdN8 x i s) := by
  cases x with
  | reg r => cases r <;> rfl
  | atHl => rfl

@[simp] theorem exec_instrRotA (x : RotAOp) (s : State) : exec (instrRotA x) s = .next (runRotA x s) := by
  cases x <;> rfl

@[simp] theorem exec_instrJrCc (x : Cond) (i : Byte) (s : State) : exec (instrJrCc x i) s = .next (runJrCc x i s) := by
  cases x <;> rfl

@[simp] theorem exec_instrLdRR (x : Reg8) (y : Reg8) (s : State) : exec (instrLdRR x y) s = .next (runLd (.reg x) (.reg y) s) := by
  cases x <;> cases y <;> rfl

@[simp] theorem exec_instrLdRAtHl (x : Reg8) (s : State) : exec (instrLdRAtHl x) s = .next (runLd (.reg x) .atHl s) := by
  cases x <;> rfl

@[simp] theorem exec_instrLdAtHlR (x : Reg8) (s : State) : exec (instrLdAtHlR x) s = .next (runLd .atHl (.reg x) s) := by
  cases x <;> rfl

@[simp] theorem exec_instrAlu (x : AluOp) (y : Operand8) (s : State) : exec (instrAlu x y) s = .next (runAlu x y s) := by
  cases y with
  | reg r => cases r <;> cases x <;> rfl
  | atHl => cases x <;> rfl

@[simp] theorem exec_instrAluN8 (x : AluOp) (i : Byte) (s : State) : exec (instrAluN8 x i) s = .next (runAluN8 x i s) := by
  cases x <;> rfl

@[simp] theorem exec_instrRetCc (x : Cond) (s : State) : exec (instrRetCc x) s = .next (runRetCc x s) := by
  cases x <;> rfl

@[simp] theorem exec_instrJpCc (x : Cond) (i : Word) (s : State) : exec (instrJpCc x i) s = .next (runJpCc x i s) := by
  cases x <;> rfl

@[simp] theorem exec_instrCallCc (x : Cond) (i : Word) (s : State) : exec (instrCallCc x i) s = .next (runCallCc x i s) := by
  cases x <;> rfl

@[simp] theorem exec_instrRst (x : Field3) (s : State) : exec (instrRst x) s = .next (runRst x s) := by
  cases x <;> rfl

@[simp] theorem exec_instrPop (x : R16stk) (s : State) : exec (instrPop x) s = .next (runPop x s) := by
  cases x <;> rfl

@[simp] theorem exec_instrPush (x : R16stk) (s : State) : exec (instrPush x) s = .next (runPush x s) := by
  cases x <;> rfl

@[simp] theorem exec_instrIllegal (x : IllegalByte) (s : State) : exec (instrIllegal x) s = .next (runIllegal (x).opcode s) := by
  cases x <;> rfl

@[simp] theorem exec_instrRot (x : RotOp) (y : Operand8) (s : State) : exec (instrRot x y) s = .next (runRot x y s) := by
  cases y with
  | reg r => cases r <;> cases x <;> rfl
  | atHl => cases x <;> rfl

@[simp] theorem exec_instrBit (x : Field3) (y : Operand8) (s : State) : exec (instrBit x y) s = .next (runBit x y s) := by
  cases y with
  | reg r => cases r <;> cases x <;> rfl
  | atHl => cases x <;> rfl

@[simp] theorem exec_instrRes (x : Field3) (y : Operand8) (s : State) : exec (instrRes x y) s = .next (runRes x y s) := by
  cases y with
  | reg r => cases r <;> cases x <;> rfl
  | atHl => cases x <;> rfl

@[simp] theorem exec_instrSet (x : Field3) (y : Operand8) (s : State) : exec (instrSet x y) s = .next (runSet x y s) := by
  cases y with
  | reg r => cases r <;> cases x <;> rfl
  | atHl => cases x <;> rfl

@[simp] theorem exec_nop (s : State) : exec .nop s = .next (runNop s) := rfl

@[simp] theorem exec_ldAtN16Sp (i : Word) (s : State) : exec (.ldAtN16Sp i) s = .next (runLdAtN16Sp i s) := rfl

@[simp] theorem exec_stop (s : State) : exec .stop s = .next (runStop s) := rfl

@[simp] theorem exec_jrE8 (i : Byte) (s : State) : exec (.jrE8 i) s = .next (runJr i s) := rfl

@[simp] theorem exec_daa (s : State) : exec .daa s = .next (runDaa s) := rfl

@[simp] theorem exec_cpl (s : State) : exec .cpl s = .next (runCpl s) := rfl

@[simp] theorem exec_scf (s : State) : exec .scf s = .next (runScf s) := rfl

@[simp] theorem exec_ccf (s : State) : exec .ccf s = .next (runCcf s) := rfl

@[simp] theorem exec_jpN16 (i : Word) (s : State) : exec (.jpN16 i) s = .next (runJp i s) := rfl

@[simp] theorem exec_ret (s : State) : exec .ret s = .next (runRet s) := rfl

@[simp] theorem exec_callN16 (i : Word) (s : State) : exec (.callN16 i) s = .next (runCall i s) := rfl

@[simp] theorem exec_reti (s : State) : exec .reti s = .next (runReti s) := rfl

@[simp] theorem exec_ldhAtN8A (i : Byte) (s : State) : exec (.ldhAtN8A i) s = .next (runLdhToN8A i s) := rfl

@[simp] theorem exec_ldhAtCA (s : State) : exec .ldhAtCA s = .next (runLdhToCA s) := rfl

@[simp] theorem exec_addSpE8 (i : Byte) (s : State) : exec (.addSpE8 i) s = .next (runAddSp i s) := rfl

@[simp] theorem exec_jpHl (s : State) : exec .jpHl s = .next (runJpHl s) := rfl

@[simp] theorem exec_ldAtN16A (i : Word) (s : State) : exec (.ldAtN16A i) s = .next (runLdToN16A i s) := rfl

@[simp] theorem exec_ldhAAtN8 (i : Byte) (s : State) : exec (.ldhAAtN8 i) s = .next (runLdhAFromN8 i s) := rfl

@[simp] theorem exec_ldhAAtC (s : State) : exec .ldhAAtC s = .next (runLdhAFromC s) := rfl

@[simp] theorem exec_di (s : State) : exec .di s = .next (runDi s) := rfl

@[simp] theorem exec_ldHlSpE8 (i : Byte) (s : State) : exec (.ldHlSpE8 i) s = .next (runLdHlSp i s) := rfl

@[simp] theorem exec_ldSpHl (s : State) : exec .ldSpHl s = .next (runLdSpHl s) := rfl

@[simp] theorem exec_ldAAtN16 (i : Word) (s : State) : exec (.ldAAtN16 i) s = .next (runLdAFromN16 i s) := rfl

@[simp] theorem exec_ei (s : State) : exec .ei s = .next (runEi s) := rfl

@[simp] theorem exec_halt (s : State) : exec .halt s = .next (runHalt s) := rfl

/-! ### The CB map -/

theorem cbInstr_eq (op2 : Byte) : cbInstr op2 =
    match opBlock op2 with
    | .f0 => instrRot (rotTable (opY op2)) (r8Table (opZ op2))
    | .f1 => instrBit (opY op2) (r8Table (opZ op2))
    | .f2 => instrRes (opY op2) (r8Table (opZ op2))
    | .f3 => instrSet (opY op2) (r8Table (opZ op2)) := by
  unfold cbInstr
  cases opBlock op2 <;> cases r8Table (opZ op2) <;> rfl

/-- `PREFIX CB` fetches a second byte and runs its row (44_block3.md R332). -/
theorem exec_prefixCb (s : State) : exec .prefixCb s = exec (cbInstr s.fetch8.1) s.fetch8.2 := by
  have hrot : ∀ op o (t : State), execCbRotate op o t = .next (runRot op o t) := by
    intro op o t
    cases op <;> rcases o with r | _ <;> first | rfl | (cases r <;> rfl)
  have hbit : ∀ b o (t : State), execCbBit b o t = .next (runBit b o t) := by
    intro b o t
    cases b <;> rcases o with r | _ <;> first | rfl | (cases r <;> rfl)
  have hres : ∀ b o (t : State), execCbRes b o t = .next (runRes b o t) := by
    intro b o t
    cases b <;> rcases o with r | _ <;> first | rfl | (cases r <;> rfl)
  have hset : ∀ b o (t : State), execCbSet b o t = .next (runSet b o t) := by
    intro b o t
    cases b <;> rcases o with r | _ <;> first | rfl | (cases r <;> rfl)
  rw [cbInstr_eq]
  change execCbRow s.fetch8.1 s.fetch8.2 = _
  unfold execCbRow
  cases opBlock s.fetch8.1 <;> simp [hrot, hbit, hres, hset]

end Sys2Proof.Machine
end

