-- ==== Sys2Proof/Laws/Memory.lean ====
section
/-! SUPPORT. The list memory: read after write, and the canonical form that every memory operation keeps. -/

namespace Sys2Proof.Machine

/-! ### Read after write -/

theorem Memory.read_erase (m : Memory) (a b : Nat) :
    Memory.read (Memory.erase m a) b = if b = a then Config.unlistedByte else Memory.read m b := by
  induction m with
  | nil => simp [Memory.erase, Memory.read]
  | cons kv m ih =>
    obtain ⟨k, v⟩ := kv
    by_cases hk : k = a
    · subst hk
      simp only [Memory.erase, if_true, ih, Memory.read]
      by_cases hb : b = k
      · simp [hb]
      · simp [hb, Ne.symm hb]
    · simp only [Memory.erase, hk, if_false, Memory.read, ih]
      by_cases hb : k = b
      · subst hb; simp [hk]
      · simp [hb]

theorem Memory.read_put (m : Memory) (a b : Nat) (v : Byte) :
    Memory.read (Memory.put m a v) b = if b = a then v else Memory.read m b := by
  induction m with
  | nil =>
    by_cases hb : b = a
    · simp [Memory.put, Memory.read, hb]
    · simp [Memory.put, Memory.read, hb, Ne.symm hb]
  | cons kv m ih =>
    obtain ⟨k, w⟩ := kv
    by_cases hlt : a < k
    · by_cases hb : b = a
      · simp [Memory.put, hlt, Memory.read, hb]
      · simp [Memory.put, hlt, Memory.read, hb, Ne.symm hb]
    · by_cases heq : a = k
      · subst heq
        by_cases hb : b = a
        · simp [Memory.put, Memory.read, hb]
        · simp [Memory.put, Memory.read, hb, Ne.symm hb]
      · simp only [Memory.put, hlt, if_false, heq, Memory.read, ih]
        by_cases hb : k = b
        · subst hb; simp [Ne.symm heq]
        · simp [hb]

/-- A read after a write: the value at the address, every other address as before. -/
theorem Memory.read_write (m : Memory) (a b : Nat) (v : Byte) :
    Memory.read (Memory.write m a v) b = if b = a then v else Memory.read m b := by
  unfold Memory.write
  split_ifs with hv hb hb
  · simp [Memory.read_erase, hb, hv]
  · simp [Memory.read_erase, hb]
  · simp [Memory.read_put, hb]
  · simp [Memory.read_put, hb]

/-! ### The canonical form -/

theorem Memory.wfFrom_cons (lo k : Nat) (v : Byte) (m : Memory) :
    Memory.wfFrom lo ((k, v) :: m) = true ↔
      lo ≤ k ∧ busOwns k = true ∧ v ≠ Config.unlistedByte ∧ Memory.wfFrom (k + 1) m = true := by
  simp [Memory.wfFrom, and_assoc]

theorem Memory.wfFrom_mono {lo lo' : Nat} {m : Memory} (hle : lo' ≤ lo) (h : Memory.wfFrom lo m = true) :
    Memory.wfFrom lo' m = true := by
  cases m with
  | nil => rfl
  | cons kv m =>
    obtain ⟨k, v⟩ := kv
    rw [Memory.wfFrom_cons] at h ⊢
    exact ⟨hle.trans h.1, h.2⟩

theorem Memory.wfFrom_erase {lo : Nat} {m : Memory} (a : Nat) (h : Memory.wfFrom lo m = true) :
    Memory.wfFrom lo (Memory.erase m a) = true := by
  induction m generalizing lo with
  | nil => rfl
  | cons kv m ih =>
    obtain ⟨k, v⟩ := kv
    rw [Memory.wfFrom_cons] at h
    by_cases hk : k = a
    · simp only [Memory.erase, hk, if_true]
      exact Memory.wfFrom_mono (by omega) (ih h.2.2.2)
    · simp only [Memory.erase, hk, if_false]
      rw [Memory.wfFrom_cons]
      exact ⟨h.1, h.2.1, h.2.2.1, ih h.2.2.2⟩

theorem Memory.wfFrom_put {lo a : Nat} {m : Memory} {v : Byte} (hlo : lo ≤ a) (ha : busOwns a = true)
    (hv : v ≠ Config.unlistedByte) (h : Memory.wfFrom lo m = true) : Memory.wfFrom lo (Memory.put m a v) = true := by
  induction m generalizing lo with
  | nil => simp [Memory.put, Memory.wfFrom, hlo, ha, hv]
  | cons kv m ih =>
    obtain ⟨k, w⟩ := kv
    rw [Memory.wfFrom_cons] at h
    by_cases hlt : a < k
    · simp only [Memory.put, hlt, if_true, Memory.wfFrom_cons]
      exact ⟨hlo, ha, hv, hlt, h.2⟩
    · by_cases heq : a = k
      · subst heq
        simp only [Memory.put, lt_irrefl, if_false, if_true, Memory.wfFrom_cons]
        exact ⟨h.1, ha, hv, h.2.2.2⟩
      · simp only [Memory.put, hlt, heq, if_false, Memory.wfFrom_cons]
        exact ⟨h.1, h.2.1, h.2.2.1, ih (by omega) h.2.2.2⟩

/-- A write to an address the bus owns keeps the canonical form. -/
theorem Memory.wf_write {m : Memory} {a : Nat} (v : Byte) (ha : busOwns a = true) (h : m.wf = true) :
    (Memory.write m a v).wf = true := by
  unfold Memory.write Memory.wf
  split_ifs with hv
  · exact Memory.wfFrom_erase a h
  · exact Memory.wfFrom_put (Nat.zero_le a) ha hv h

/-- Placing bytes keeps the canonical form. -/
theorem Memory.wf_store {m : Memory} (a : Word) (bs : List Byte) (h : m.wf = true) : (Memory.store m a bs).wf = true := by
  induction bs generalizing m a with
  | nil => exact h
  | cons v bs ih =>
    apply ih
    split_ifs with ho
    · exact Memory.wf_write v ho h
    · exact h

theorem Memory.wf_nil : Memory.wf [] = true := rfl

/-- The bus owns every 16-bit address but those of IF and IE. -/
theorem busOwns_word {a : Word} (hf : a ≠ ifAddr) (he : a ≠ ieAddr) : busOwns a.toNat = true := by
  have hf' : a.toNat ≠ 0xFF0F := fun h => hf (BitVec.eq_of_toNat_eq (by simpa [ifAddr] using h))
  have he' : a.toNat ≠ 0xFFFF := fun h => he (BitVec.eq_of_toNat_eq (by simpa [ieAddr] using h))
  simp [busOwns, hf', he', a.isLt]

end Sys2Proof.Machine
end

