-- ==== Sys2Proof/Laws/State.lean ====
section
/-! SUPPORT. What each named update of State leaves in each field: one `rfl` lemma per field and update. -/

namespace Sys2Proof.Machine

/-! ### `setPc` -/

@[simp] theorem State.setPc_a (s : State) (v : Word) : (s.setPc v).a = s.a := rfl
@[simp] theorem State.setPc_b (s : State) (v : Word) : (s.setPc v).b = s.b := rfl
@[simp] theorem State.setPc_c (s : State) (v : Word) : (s.setPc v).c = s.c := rfl
@[simp] theorem State.setPc_d (s : State) (v : Word) : (s.setPc v).d = s.d := rfl
@[simp] theorem State.setPc_e (s : State) (v : Word) : (s.setPc v).e = s.e := rfl
@[simp] theorem State.setPc_h (s : State) (v : Word) : (s.setPc v).h = s.h := rfl
@[simp] theorem State.setPc_l (s : State) (v : Word) : (s.setPc v).l = s.l := rfl
@[simp] theorem State.setPc_flags (s : State) (v : Word) : (s.setPc v).flags = s.flags := rfl
@[simp] theorem State.setPc_sp (s : State) (v : Word) : (s.setPc v).sp = s.sp := rfl
@[simp] theorem State.setPc_pc (s : State) (v : Word) : (s.setPc v).pc = v := rfl
@[simp] theorem State.setPc_ime (s : State) (v : Word) : (s.setPc v).ime = s.ime := rfl
@[simp] theorem State.setPc_imeNext (s : State) (v : Word) : (s.setPc v).imeNext = s.imeNext := rfl
@[simp] theorem State.setPc_halted (s : State) (v : Word) : (s.setPc v).halted = s.halted := rfl
@[simp] theorem State.setPc_irqEnable (s : State) (v : Word) : (s.setPc v).irqEnable = s.irqEnable := rfl
@[simp] theorem State.setPc_irqFlags (s : State) (v : Word) : (s.setPc v).irqFlags = s.irqFlags := rfl
@[simp] theorem State.setPc_timestamp (s : State) (v : Word) : (s.setPc v).timestamp = s.timestamp := rfl
@[simp] theorem State.setPc_doubleSpeed (s : State) (v : Word) : (s.setPc v).doubleSpeed = s.doubleSpeed := rfl
@[simp] theorem State.setPc_speedSwitchPending (s : State) (v : Word) : (s.setPc v).speedSwitchPending = s.speedSwitchPending := rfl
@[simp] theorem State.setPc_fault (s : State) (v : Word) : (s.setPc v).fault = s.fault := rfl
@[simp] theorem State.setPc_haltBugPending (s : State) (v : Word) : (s.setPc v).haltBugPending = s.haltBugPending := rfl
@[simp] theorem State.setPc_elapsed (s : State) (v : Word) : (s.setPc v).elapsed = s.elapsed := rfl
@[simp] theorem State.setPc_mem (s : State) (v : Word) : (s.setPc v).mem = s.mem := rfl
@[simp] theorem State.setPc_params (s : State) (v : Word) : (s.setPc v).params = s.params := rfl
@[simp] theorem State.setPc_env (s : State) (v : Word) : (s.setPc v).env = s.env := rfl
@[simp] theorem State.setPc_draws (s : State) (v : Word) : (s.setPc v).draws = s.draws := rfl
@[simp] theorem State.setPc_opcodePc (s : State) (v : Word) : (s.setPc v).opcodePc = s.opcodePc := rfl

/-! ### `setSp` -/

@[simp] theorem State.setSp_a (s : State) (v : Word) : (s.setSp v).a = s.a := rfl
@[simp] theorem State.setSp_b (s : State) (v : Word) : (s.setSp v).b = s.b := rfl
@[simp] theorem State.setSp_c (s : State) (v : Word) : (s.setSp v).c = s.c := rfl
@[simp] theorem State.setSp_d (s : State) (v : Word) : (s.setSp v).d = s.d := rfl
@[simp] theorem State.setSp_e (s : State) (v : Word) : (s.setSp v).e = s.e := rfl
@[simp] theorem State.setSp_h (s : State) (v : Word) : (s.setSp v).h = s.h := rfl
@[simp] theorem State.setSp_l (s : State) (v : Word) : (s.setSp v).l = s.l := rfl
@[simp] theorem State.setSp_flags (s : State) (v : Word) : (s.setSp v).flags = s.flags := rfl
@[simp] theorem State.setSp_sp (s : State) (v : Word) : (s.setSp v).sp = v := rfl
@[simp] theorem State.setSp_pc (s : State) (v : Word) : (s.setSp v).pc = s.pc := rfl
@[simp] theorem State.setSp_ime (s : State) (v : Word) : (s.setSp v).ime = s.ime := rfl
@[simp] theorem State.setSp_imeNext (s : State) (v : Word) : (s.setSp v).imeNext = s.imeNext := rfl
@[simp] theorem State.setSp_halted (s : State) (v : Word) : (s.setSp v).halted = s.halted := rfl
@[simp] theorem State.setSp_irqEnable (s : State) (v : Word) : (s.setSp v).irqEnable = s.irqEnable := rfl
@[simp] theorem State.setSp_irqFlags (s : State) (v : Word) : (s.setSp v).irqFlags = s.irqFlags := rfl
@[simp] theorem State.setSp_timestamp (s : State) (v : Word) : (s.setSp v).timestamp = s.timestamp := rfl
@[simp] theorem State.setSp_doubleSpeed (s : State) (v : Word) : (s.setSp v).doubleSpeed = s.doubleSpeed := rfl
@[simp] theorem State.setSp_speedSwitchPending (s : State) (v : Word) : (s.setSp v).speedSwitchPending = s.speedSwitchPending := rfl
@[simp] theorem State.setSp_fault (s : State) (v : Word) : (s.setSp v).fault = s.fault := rfl
@[simp] theorem State.setSp_haltBugPending (s : State) (v : Word) : (s.setSp v).haltBugPending = s.haltBugPending := rfl
@[simp] theorem State.setSp_elapsed (s : State) (v : Word) : (s.setSp v).elapsed = s.elapsed := rfl
@[simp] theorem State.setSp_mem (s : State) (v : Word) : (s.setSp v).mem = s.mem := rfl
@[simp] theorem State.setSp_params (s : State) (v : Word) : (s.setSp v).params = s.params := rfl
@[simp] theorem State.setSp_env (s : State) (v : Word) : (s.setSp v).env = s.env := rfl
@[simp] theorem State.setSp_draws (s : State) (v : Word) : (s.setSp v).draws = s.draws := rfl
@[simp] theorem State.setSp_opcodePc (s : State) (v : Word) : (s.setSp v).opcodePc = s.opcodePc := rfl

/-! ### `setIme` -/

@[simp] theorem State.setIme_a (s : State) (v w : Bool) : (s.setIme v w).a = s.a := rfl
@[simp] theorem State.setIme_b (s : State) (v w : Bool) : (s.setIme v w).b = s.b := rfl
@[simp] theorem State.setIme_c (s : State) (v w : Bool) : (s.setIme v w).c = s.c := rfl
@[simp] theorem State.setIme_d (s : State) (v w : Bool) : (s.setIme v w).d = s.d := rfl
@[simp] theorem State.setIme_e (s : State) (v w : Bool) : (s.setIme v w).e = s.e := rfl
@[simp] theorem State.setIme_h (s : State) (v w : Bool) : (s.setIme v w).h = s.h := rfl
@[simp] theorem State.setIme_l (s : State) (v w : Bool) : (s.setIme v w).l = s.l := rfl
@[simp] theorem State.setIme_flags (s : State) (v w : Bool) : (s.setIme v w).flags = s.flags := rfl
@[simp] theorem State.setIme_sp (s : State) (v w : Bool) : (s.setIme v w).sp = s.sp := rfl
@[simp] theorem State.setIme_pc (s : State) (v w : Bool) : (s.setIme v w).pc = s.pc := rfl
@[simp] theorem State.setIme_ime (s : State) (v w : Bool) : (s.setIme v w).ime = v := rfl
@[simp] theorem State.setIme_imeNext (s : State) (v w : Bool) : (s.setIme v w).imeNext = w := rfl
@[simp] theorem State.setIme_halted (s : State) (v w : Bool) : (s.setIme v w).halted = s.halted := rfl
@[simp] theorem State.setIme_irqEnable (s : State) (v w : Bool) : (s.setIme v w).irqEnable = s.irqEnable := rfl
@[simp] theorem State.setIme_irqFlags (s : State) (v w : Bool) : (s.setIme v w).irqFlags = s.irqFlags := rfl
@[simp] theorem State.setIme_timestamp (s : State) (v w : Bool) : (s.setIme v w).timestamp = s.timestamp := rfl
@[simp] theorem State.setIme_doubleSpeed (s : State) (v w : Bool) : (s.setIme v w).doubleSpeed = s.doubleSpeed := rfl
@[simp] theorem State.setIme_speedSwitchPending (s : State) (v w : Bool) : (s.setIme v w).speedSwitchPending = s.speedSwitchPending := rfl
@[simp] theorem State.setIme_fault (s : State) (v w : Bool) : (s.setIme v w).fault = s.fault := rfl
@[simp] theorem State.setIme_haltBugPending (s : State) (v w : Bool) : (s.setIme v w).haltBugPending = s.haltBugPending := rfl
@[simp] theorem State.setIme_elapsed (s : State) (v w : Bool) : (s.setIme v w).elapsed = s.elapsed := rfl
@[simp] theorem State.setIme_mem (s : State) (v w : Bool) : (s.setIme v w).mem = s.mem := rfl
@[simp] theorem State.setIme_params (s : State) (v w : Bool) : (s.setIme v w).params = s.params := rfl
@[simp] theorem State.setIme_env (s : State) (v w : Bool) : (s.setIme v w).env = s.env := rfl
@[simp] theorem State.setIme_draws (s : State) (v w : Bool) : (s.setIme v w).draws = s.draws := rfl
@[simp] theorem State.setIme_opcodePc (s : State) (v w : Bool) : (s.setIme v w).opcodePc = s.opcodePc := rfl

/-! ### `setHalted` -/

@[simp] theorem State.setHalted_a (s : State) (v : Bool) : (s.setHalted v).a = s.a := rfl
@[simp] theorem State.setHalted_b (s : State) (v : Bool) : (s.setHalted v).b = s.b := rfl
@[simp] theorem State.setHalted_c (s : State) (v : Bool) : (s.setHalted v).c = s.c := rfl
@[simp] theorem State.setHalted_d (s : State) (v : Bool) : (s.setHalted v).d = s.d := rfl
@[simp] theorem State.setHalted_e (s : State) (v : Bool) : (s.setHalted v).e = s.e := rfl
@[simp] theorem State.setHalted_h (s : State) (v : Bool) : (s.setHalted v).h = s.h := rfl
@[simp] theorem State.setHalted_l (s : State) (v : Bool) : (s.setHalted v).l = s.l := rfl
@[simp] theorem State.setHalted_flags (s : State) (v : Bool) : (s.setHalted v).flags = s.flags := rfl
@[simp] theorem State.setHalted_sp (s : State) (v : Bool) : (s.setHalted v).sp = s.sp := rfl
@[simp] theorem State.setHalted_pc (s : State) (v : Bool) : (s.setHalted v).pc = s.pc := rfl
@[simp] theorem State.setHalted_ime (s : State) (v : Bool) : (s.setHalted v).ime = s.ime := rfl
@[simp] theorem State.setHalted_imeNext (s : State) (v : Bool) : (s.setHalted v).imeNext = s.imeNext := rfl
@[simp] theorem State.setHalted_halted (s : State) (v : Bool) : (s.setHalted v).halted = v := rfl
@[simp] theorem State.setHalted_irqEnable (s : State) (v : Bool) : (s.setHalted v).irqEnable = s.irqEnable := rfl
@[simp] theorem State.setHalted_irqFlags (s : State) (v : Bool) : (s.setHalted v).irqFlags = s.irqFlags := rfl
@[simp] theorem State.setHalted_timestamp (s : State) (v : Bool) : (s.setHalted v).timestamp = s.timestamp := rfl
@[simp] theorem State.setHalted_doubleSpeed (s : State) (v : Bool) : (s.setHalted v).doubleSpeed = s.doubleSpeed := rfl
@[simp] theorem State.setHalted_speedSwitchPending (s : State) (v : Bool) : (s.setHalted v).speedSwitchPending = s.speedSwitchPending := rfl
@[simp] theorem State.setHalted_fault (s : State) (v : Bool) : (s.setHalted v).fault = s.fault := rfl
@[simp] theorem State.setHalted_haltBugPending (s : State) (v : Bool) : (s.setHalted v).haltBugPending = s.haltBugPending := rfl
@[simp] theorem State.setHalted_elapsed (s : State) (v : Bool) : (s.setHalted v).elapsed = s.elapsed := rfl
@[simp] theorem State.setHalted_mem (s : State) (v : Bool) : (s.setHalted v).mem = s.mem := rfl
@[simp] theorem State.setHalted_params (s : State) (v : Bool) : (s.setHalted v).params = s.params := rfl
@[simp] theorem State.setHalted_env (s : State) (v : Bool) : (s.setHalted v).env = s.env := rfl
@[simp] theorem State.setHalted_draws (s : State) (v : Bool) : (s.setHalted v).draws = s.draws := rfl
@[simp] theorem State.setHalted_opcodePc (s : State) (v : Bool) : (s.setHalted v).opcodePc = s.opcodePc := rfl

/-! ### `setHaltBugPending` -/

@[simp] theorem State.setHaltBugPending_a (s : State) (v : Bool) : (s.setHaltBugPending v).a = s.a := rfl
@[simp] theorem State.setHaltBugPending_b (s : State) (v : Bool) : (s.setHaltBugPending v).b = s.b := rfl
@[simp] theorem State.setHaltBugPending_c (s : State) (v : Bool) : (s.setHaltBugPending v).c = s.c := rfl
@[simp] theorem State.setHaltBugPending_d (s : State) (v : Bool) : (s.setHaltBugPending v).d = s.d := rfl
@[simp] theorem State.setHaltBugPending_e (s : State) (v : Bool) : (s.setHaltBugPending v).e = s.e := rfl
@[simp] theorem State.setHaltBugPending_h (s : State) (v : Bool) : (s.setHaltBugPending v).h = s.h := rfl
@[simp] theorem State.setHaltBugPending_l (s : State) (v : Bool) : (s.setHaltBugPending v).l = s.l := rfl
@[simp] theorem State.setHaltBugPending_flags (s : State) (v : Bool) : (s.setHaltBugPending v).flags = s.flags := rfl
@[simp] theorem State.setHaltBugPending_sp (s : State) (v : Bool) : (s.setHaltBugPending v).sp = s.sp := rfl
@[simp] theorem State.setHaltBugPending_pc (s : State) (v : Bool) : (s.setHaltBugPending v).pc = s.pc := rfl
@[simp] theorem State.setHaltBugPending_ime (s : State) (v : Bool) : (s.setHaltBugPending v).ime = s.ime := rfl
@[simp] theorem State.setHaltBugPending_imeNext (s : State) (v : Bool) : (s.setHaltBugPending v).imeNext = s.imeNext := rfl
@[simp] theorem State.setHaltBugPending_halted (s : State) (v : Bool) : (s.setHaltBugPending v).halted = s.halted := rfl
@[simp] theorem State.setHaltBugPending_irqEnable (s : State) (v : Bool) : (s.setHaltBugPending v).irqEnable = s.irqEnable := rfl
@[simp] theorem State.setHaltBugPending_irqFlags (s : State) (v : Bool) : (s.setHaltBugPending v).irqFlags = s.irqFlags := rfl
@[simp] theorem State.setHaltBugPending_timestamp (s : State) (v : Bool) : (s.setHaltBugPending v).timestamp = s.timestamp := rfl
@[simp] theorem State.setHaltBugPending_doubleSpeed (s : State) (v : Bool) : (s.setHaltBugPending v).doubleSpeed = s.doubleSpeed := rfl
@[simp] theorem State.setHaltBugPending_speedSwitchPending (s : State) (v : Bool) : (s.setHaltBugPending v).speedSwitchPending = s.speedSwitchPending := rfl
@[simp] theorem State.setHaltBugPending_fault (s : State) (v : Bool) : (s.setHaltBugPending v).fault = s.fault := rfl
@[simp] theorem State.setHaltBugPending_haltBugPending (s : State) (v : Bool) : (s.setHaltBugPending v).haltBugPending = v := rfl
@[simp] theorem State.setHaltBugPending_elapsed (s : State) (v : Bool) : (s.setHaltBugPending v).elapsed = s.elapsed := rfl
@[simp] theorem State.setHaltBugPending_mem (s : State) (v : Bool) : (s.setHaltBugPending v).mem = s.mem := rfl
@[simp] theorem State.setHaltBugPending_params (s : State) (v : Bool) : (s.setHaltBugPending v).params = s.params := rfl
@[simp] theorem State.setHaltBugPending_env (s : State) (v : Bool) : (s.setHaltBugPending v).env = s.env := rfl
@[simp] theorem State.setHaltBugPending_draws (s : State) (v : Bool) : (s.setHaltBugPending v).draws = s.draws := rfl
@[simp] theorem State.setHaltBugPending_opcodePc (s : State) (v : Bool) : (s.setHaltBugPending v).opcodePc = s.opcodePc := rfl

/-! ### `setIrqFlags` -/

@[simp] theorem State.setIrqFlags_a (s : State) (v : BitVec 5) : (s.setIrqFlags v).a = s.a := rfl
@[simp] theorem State.setIrqFlags_b (s : State) (v : BitVec 5) : (s.setIrqFlags v).b = s.b := rfl
@[simp] theorem State.setIrqFlags_c (s : State) (v : BitVec 5) : (s.setIrqFlags v).c = s.c := rfl
@[simp] theorem State.setIrqFlags_d (s : State) (v : BitVec 5) : (s.setIrqFlags v).d = s.d := rfl
@[simp] theorem State.setIrqFlags_e (s : State) (v : BitVec 5) : (s.setIrqFlags v).e = s.e := rfl
@[simp] theorem State.setIrqFlags_h (s : State) (v : BitVec 5) : (s.setIrqFlags v).h = s.h := rfl
@[simp] theorem State.setIrqFlags_l (s : State) (v : BitVec 5) : (s.setIrqFlags v).l = s.l := rfl
@[simp] theorem State.setIrqFlags_flags (s : State) (v : BitVec 5) : (s.setIrqFlags v).flags = s.flags := rfl
@[simp] theorem State.setIrqFlags_sp (s : State) (v : BitVec 5) : (s.setIrqFlags v).sp = s.sp := rfl
@[simp] theorem State.setIrqFlags_pc (s : State) (v : BitVec 5) : (s.setIrqFlags v).pc = s.pc := rfl
@[simp] theorem State.setIrqFlags_ime (s : State) (v : BitVec 5) : (s.setIrqFlags v).ime = s.ime := rfl
@[simp] theorem State.setIrqFlags_imeNext (s : State) (v : BitVec 5) : (s.setIrqFlags v).imeNext = s.imeNext := rfl
@[simp] theorem State.setIrqFlags_halted (s : State) (v : BitVec 5) : (s.setIrqFlags v).halted = s.halted := rfl
@[simp] theorem State.setIrqFlags_irqEnable (s : State) (v : BitVec 5) : (s.setIrqFlags v).irqEnable = s.irqEnable := rfl
@[simp] theorem State.setIrqFlags_irqFlags (s : State) (v : BitVec 5) : (s.setIrqFlags v).irqFlags = v := rfl
@[simp] theorem State.setIrqFlags_timestamp (s : State) (v : BitVec 5) : (s.setIrqFlags v).timestamp = s.timestamp := rfl
@[simp] theorem State.setIrqFlags_doubleSpeed (s : State) (v : BitVec 5) : (s.setIrqFlags v).doubleSpeed = s.doubleSpeed := rfl
@[simp] theorem State.setIrqFlags_speedSwitchPending (s : State) (v : BitVec 5) : (s.setIrqFlags v).speedSwitchPending = s.speedSwitchPending := rfl
@[simp] theorem State.setIrqFlags_fault (s : State) (v : BitVec 5) : (s.setIrqFlags v).fault = s.fault := rfl
@[simp] theorem State.setIrqFlags_haltBugPending (s : State) (v : BitVec 5) : (s.setIrqFlags v).haltBugPending = s.haltBugPending := rfl
@[simp] theorem State.setIrqFlags_elapsed (s : State) (v : BitVec 5) : (s.setIrqFlags v).elapsed = s.elapsed := rfl
@[simp] theorem State.setIrqFlags_mem (s : State) (v : BitVec 5) : (s.setIrqFlags v).mem = s.mem := rfl
@[simp] theorem State.setIrqFlags_params (s : State) (v : BitVec 5) : (s.setIrqFlags v).params = s.params := rfl
@[simp] theorem State.setIrqFlags_env (s : State) (v : BitVec 5) : (s.setIrqFlags v).env = s.env := rfl
@[simp] theorem State.setIrqFlags_draws (s : State) (v : BitVec 5) : (s.setIrqFlags v).draws = s.draws := rfl
@[simp] theorem State.setIrqFlags_opcodePc (s : State) (v : BitVec 5) : (s.setIrqFlags v).opcodePc = s.opcodePc := rfl

/-! ### `setIrqEnable` -/

@[simp] theorem State.setIrqEnable_a (s : State) (v : BitVec 5) : (s.setIrqEnable v).a = s.a := rfl
@[simp] theorem State.setIrqEnable_b (s : State) (v : BitVec 5) : (s.setIrqEnable v).b = s.b := rfl
@[simp] theorem State.setIrqEnable_c (s : State) (v : BitVec 5) : (s.setIrqEnable v).c = s.c := rfl
@[simp] theorem State.setIrqEnable_d (s : State) (v : BitVec 5) : (s.setIrqEnable v).d = s.d := rfl
@[simp] theorem State.setIrqEnable_e (s : State) (v : BitVec 5) : (s.setIrqEnable v).e = s.e := rfl
@[simp] theorem State.setIrqEnable_h (s : State) (v : BitVec 5) : (s.setIrqEnable v).h = s.h := rfl
@[simp] theorem State.setIrqEnable_l (s : State) (v : BitVec 5) : (s.setIrqEnable v).l = s.l := rfl
@[simp] theorem State.setIrqEnable_flags (s : State) (v : BitVec 5) : (s.setIrqEnable v).flags = s.flags := rfl
@[simp] theorem State.setIrqEnable_sp (s : State) (v : BitVec 5) : (s.setIrqEnable v).sp = s.sp := rfl
@[simp] theorem State.setIrqEnable_pc (s : State) (v : BitVec 5) : (s.setIrqEnable v).pc = s.pc := rfl
@[simp] theorem State.setIrqEnable_ime (s : State) (v : BitVec 5) : (s.setIrqEnable v).ime = s.ime := rfl
@[simp] theorem State.setIrqEnable_imeNext (s : State) (v : BitVec 5) : (s.setIrqEnable v).imeNext = s.imeNext := rfl
@[simp] theorem State.setIrqEnable_halted (s : State) (v : BitVec 5) : (s.setIrqEnable v).halted = s.halted := rfl
@[simp] theorem State.setIrqEnable_irqEnable (s : State) (v : BitVec 5) : (s.setIrqEnable v).irqEnable = v := rfl
@[simp] theorem State.setIrqEnable_irqFlags (s : State) (v : BitVec 5) : (s.setIrqEnable v).irqFlags = s.irqFlags := rfl
@[simp] theorem State.setIrqEnable_timestamp (s : State) (v : BitVec 5) : (s.setIrqEnable v).timestamp = s.timestamp := rfl
@[simp] theorem State.setIrqEnable_doubleSpeed (s : State) (v : BitVec 5) : (s.setIrqEnable v).doubleSpeed = s.doubleSpeed := rfl
@[simp] theorem State.setIrqEnable_speedSwitchPending (s : State) (v : BitVec 5) : (s.setIrqEnable v).speedSwitchPending = s.speedSwitchPending := rfl
@[simp] theorem State.setIrqEnable_fault (s : State) (v : BitVec 5) : (s.setIrqEnable v).fault = s.fault := rfl
@[simp] theorem State.setIrqEnable_haltBugPending (s : State) (v : BitVec 5) : (s.setIrqEnable v).haltBugPending = s.haltBugPending := rfl
@[simp] theorem State.setIrqEnable_elapsed (s : State) (v : BitVec 5) : (s.setIrqEnable v).elapsed = s.elapsed := rfl
@[simp] theorem State.setIrqEnable_mem (s : State) (v : BitVec 5) : (s.setIrqEnable v).mem = s.mem := rfl
@[simp] theorem State.setIrqEnable_params (s : State) (v : BitVec 5) : (s.setIrqEnable v).params = s.params := rfl
@[simp] theorem State.setIrqEnable_env (s : State) (v : BitVec 5) : (s.setIrqEnable v).env = s.env := rfl
@[simp] theorem State.setIrqEnable_draws (s : State) (v : BitVec 5) : (s.setIrqEnable v).draws = s.draws := rfl
@[simp] theorem State.setIrqEnable_opcodePc (s : State) (v : BitVec 5) : (s.setIrqEnable v).opcodePc = s.opcodePc := rfl

/-! ### `setMem` -/

@[simp] theorem State.setMem_a (s : State) (m : Memory) : (s.setMem m).a = s.a := rfl
@[simp] theorem State.setMem_b (s : State) (m : Memory) : (s.setMem m).b = s.b := rfl
@[simp] theorem State.setMem_c (s : State) (m : Memory) : (s.setMem m).c = s.c := rfl
@[simp] theorem State.setMem_d (s : State) (m : Memory) : (s.setMem m).d = s.d := rfl
@[simp] theorem State.setMem_e (s : State) (m : Memory) : (s.setMem m).e = s.e := rfl
@[simp] theorem State.setMem_h (s : State) (m : Memory) : (s.setMem m).h = s.h := rfl
@[simp] theorem State.setMem_l (s : State) (m : Memory) : (s.setMem m).l = s.l := rfl
@[simp] theorem State.setMem_flags (s : State) (m : Memory) : (s.setMem m).flags = s.flags := rfl
@[simp] theorem State.setMem_sp (s : State) (m : Memory) : (s.setMem m).sp = s.sp := rfl
@[simp] theorem State.setMem_pc (s : State) (m : Memory) : (s.setMem m).pc = s.pc := rfl
@[simp] theorem State.setMem_ime (s : State) (m : Memory) : (s.setMem m).ime = s.ime := rfl
@[simp] theorem State.setMem_imeNext (s : State) (m : Memory) : (s.setMem m).imeNext = s.imeNext := rfl
@[simp] theorem State.setMem_halted (s : State) (m : Memory) : (s.setMem m).halted = s.halted := rfl
@[simp] theorem State.setMem_irqEnable (s : State) (m : Memory) : (s.setMem m).irqEnable = s.irqEnable := rfl
@[simp] theorem State.setMem_irqFlags (s : State) (m : Memory) : (s.setMem m).irqFlags = s.irqFlags := rfl
@[simp] theorem State.setMem_timestamp (s : State) (m : Memory) : (s.setMem m).timestamp = s.timestamp := rfl
@[simp] theorem State.setMem_doubleSpeed (s : State) (m : Memory) : (s.setMem m).doubleSpeed = s.doubleSpeed := rfl
@[simp] theorem State.setMem_speedSwitchPending (s : State) (m : Memory) : (s.setMem m).speedSwitchPending = s.speedSwitchPending := rfl
@[simp] theorem State.setMem_fault (s : State) (m : Memory) : (s.setMem m).fault = s.fault := rfl
@[simp] theorem State.setMem_haltBugPending (s : State) (m : Memory) : (s.setMem m).haltBugPending = s.haltBugPending := rfl
@[simp] theorem State.setMem_elapsed (s : State) (m : Memory) : (s.setMem m).elapsed = s.elapsed := rfl
@[simp] theorem State.setMem_mem (s : State) (m : Memory) : (s.setMem m).mem = m := rfl
@[simp] theorem State.setMem_params (s : State) (m : Memory) : (s.setMem m).params = s.params := rfl
@[simp] theorem State.setMem_env (s : State) (m : Memory) : (s.setMem m).env = s.env := rfl
@[simp] theorem State.setMem_draws (s : State) (m : Memory) : (s.setMem m).draws = s.draws := rfl
@[simp] theorem State.setMem_opcodePc (s : State) (m : Memory) : (s.setMem m).opcodePc = s.opcodePc := rfl

/-! ### `setEnv` -/

@[simp] theorem State.setEnv_a (s : State) (x : List EnvEvent) : (s.setEnv x).a = s.a := rfl
@[simp] theorem State.setEnv_b (s : State) (x : List EnvEvent) : (s.setEnv x).b = s.b := rfl
@[simp] theorem State.setEnv_c (s : State) (x : List EnvEvent) : (s.setEnv x).c = s.c := rfl
@[simp] theorem State.setEnv_d (s : State) (x : List EnvEvent) : (s.setEnv x).d = s.d := rfl
@[simp] theorem State.setEnv_e (s : State) (x : List EnvEvent) : (s.setEnv x).e = s.e := rfl
@[simp] theorem State.setEnv_h (s : State) (x : List EnvEvent) : (s.setEnv x).h = s.h := rfl
@[simp] theorem State.setEnv_l (s : State) (x : List EnvEvent) : (s.setEnv x).l = s.l := rfl
@[simp] theorem State.setEnv_flags (s : State) (x : List EnvEvent) : (s.setEnv x).flags = s.flags := rfl
@[simp] theorem State.setEnv_sp (s : State) (x : List EnvEvent) : (s.setEnv x).sp = s.sp := rfl
@[simp] theorem State.setEnv_pc (s : State) (x : List EnvEvent) : (s.setEnv x).pc = s.pc := rfl
@[simp] theorem State.setEnv_ime (s : State) (x : List EnvEvent) : (s.setEnv x).ime = s.ime := rfl
@[simp] theorem State.setEnv_imeNext (s : State) (x : List EnvEvent) : (s.setEnv x).imeNext = s.imeNext := rfl
@[simp] theorem State.setEnv_halted (s : State) (x : List EnvEvent) : (s.setEnv x).halted = s.halted := rfl
@[simp] theorem State.setEnv_irqEnable (s : State) (x : List EnvEvent) : (s.setEnv x).irqEnable = s.irqEnable := rfl
@[simp] theorem State.setEnv_irqFlags (s : State) (x : List EnvEvent) : (s.setEnv x).irqFlags = s.irqFlags := rfl
@[simp] theorem State.setEnv_timestamp (s : State) (x : List EnvEvent) : (s.setEnv x).timestamp = s.timestamp := rfl
@[simp] theorem State.setEnv_doubleSpeed (s : State) (x : List EnvEvent) : (s.setEnv x).doubleSpeed = s.doubleSpeed := rfl
@[simp] theorem State.setEnv_speedSwitchPending (s : State) (x : List EnvEvent) : (s.setEnv x).speedSwitchPending = s.speedSwitchPending := rfl
@[simp] theorem State.setEnv_fault (s : State) (x : List EnvEvent) : (s.setEnv x).fault = s.fault := rfl
@[simp] theorem State.setEnv_haltBugPending (s : State) (x : List EnvEvent) : (s.setEnv x).haltBugPending = s.haltBugPending := rfl
@[simp] theorem State.setEnv_elapsed (s : State) (x : List EnvEvent) : (s.setEnv x).elapsed = s.elapsed := rfl
@[simp] theorem State.setEnv_mem (s : State) (x : List EnvEvent) : (s.setEnv x).mem = s.mem := rfl
@[simp] theorem State.setEnv_params (s : State) (x : List EnvEvent) : (s.setEnv x).params = s.params := rfl
@[simp] theorem State.setEnv_env (s : State) (x : List EnvEvent) : (s.setEnv x).env = x := rfl
@[simp] theorem State.setEnv_draws (s : State) (x : List EnvEvent) : (s.setEnv x).draws = s.draws := rfl
@[simp] theorem State.setEnv_opcodePc (s : State) (x : List EnvEvent) : (s.setEnv x).opcodePc = s.opcodePc := rfl

/-! ### `drawn` -/

@[simp] theorem State.drawn_a (s : State) : (s.drawn).a = s.a := rfl
@[simp] theorem State.drawn_b (s : State) : (s.drawn).b = s.b := rfl
@[simp] theorem State.drawn_c (s : State) : (s.drawn).c = s.c := rfl
@[simp] theorem State.drawn_d (s : State) : (s.drawn).d = s.d := rfl
@[simp] theorem State.drawn_e (s : State) : (s.drawn).e = s.e := rfl
@[simp] theorem State.drawn_h (s : State) : (s.drawn).h = s.h := rfl
@[simp] theorem State.drawn_l (s : State) : (s.drawn).l = s.l := rfl
@[simp] theorem State.drawn_flags (s : State) : (s.drawn).flags = s.flags := rfl
@[simp] theorem State.drawn_sp (s : State) : (s.drawn).sp = s.sp := rfl
@[simp] theorem State.drawn_pc (s : State) : (s.drawn).pc = s.pc := rfl
@[simp] theorem State.drawn_ime (s : State) : (s.drawn).ime = s.ime := rfl
@[simp] theorem State.drawn_imeNext (s : State) : (s.drawn).imeNext = s.imeNext := rfl
@[simp] theorem State.drawn_halted (s : State) : (s.drawn).halted = s.halted := rfl
@[simp] theorem State.drawn_irqEnable (s : State) : (s.drawn).irqEnable = s.irqEnable := rfl
@[simp] theorem State.drawn_irqFlags (s : State) : (s.drawn).irqFlags = s.irqFlags := rfl
@[simp] theorem State.drawn_timestamp (s : State) : (s.drawn).timestamp = s.timestamp := rfl
@[simp] theorem State.drawn_doubleSpeed (s : State) : (s.drawn).doubleSpeed = s.doubleSpeed := rfl
@[simp] theorem State.drawn_speedSwitchPending (s : State) : (s.drawn).speedSwitchPending = s.speedSwitchPending := rfl
@[simp] theorem State.drawn_fault (s : State) : (s.drawn).fault = s.fault := rfl
@[simp] theorem State.drawn_haltBugPending (s : State) : (s.drawn).haltBugPending = s.haltBugPending := rfl
@[simp] theorem State.drawn_elapsed (s : State) : (s.drawn).elapsed = s.elapsed := rfl
@[simp] theorem State.drawn_mem (s : State) : (s.drawn).mem = s.mem := rfl
@[simp] theorem State.drawn_params (s : State) : (s.drawn).params = s.params := rfl
@[simp] theorem State.drawn_env (s : State) : (s.drawn).env = s.env := rfl
@[simp] theorem State.drawn_draws (s : State) : (s.drawn).draws = s.draws + 1 := rfl
@[simp] theorem State.drawn_opcodePc (s : State) : (s.drawn).opcodePc = s.opcodePc := rfl

/-! ### `setOpcodePc` -/

@[simp] theorem State.setOpcodePc_a (s : State) (v : Word) : (s.setOpcodePc v).a = s.a := rfl
@[simp] theorem State.setOpcodePc_b (s : State) (v : Word) : (s.setOpcodePc v).b = s.b := rfl
@[simp] theorem State.setOpcodePc_c (s : State) (v : Word) : (s.setOpcodePc v).c = s.c := rfl
@[simp] theorem State.setOpcodePc_d (s : State) (v : Word) : (s.setOpcodePc v).d = s.d := rfl
@[simp] theorem State.setOpcodePc_e (s : State) (v : Word) : (s.setOpcodePc v).e = s.e := rfl
@[simp] theorem State.setOpcodePc_h (s : State) (v : Word) : (s.setOpcodePc v).h = s.h := rfl
@[simp] theorem State.setOpcodePc_l (s : State) (v : Word) : (s.setOpcodePc v).l = s.l := rfl
@[simp] theorem State.setOpcodePc_flags (s : State) (v : Word) : (s.setOpcodePc v).flags = s.flags := rfl
@[simp] theorem State.setOpcodePc_sp (s : State) (v : Word) : (s.setOpcodePc v).sp = s.sp := rfl
@[simp] theorem State.setOpcodePc_pc (s : State) (v : Word) : (s.setOpcodePc v).pc = s.pc := rfl
@[simp] theorem State.setOpcodePc_ime (s : State) (v : Word) : (s.setOpcodePc v).ime = s.ime := rfl
@[simp] theorem State.setOpcodePc_imeNext (s : State) (v : Word) : (s.setOpcodePc v).imeNext = s.imeNext := rfl
@[simp] theorem State.setOpcodePc_halted (s : State) (v : Word) : (s.setOpcodePc v).halted = s.halted := rfl
@[simp] theorem State.setOpcodePc_irqEnable (s : State) (v : Word) : (s.setOpcodePc v).irqEnable = s.irqEnable := rfl
@[simp] theorem State.setOpcodePc_irqFlags (s : State) (v : Word) : (s.setOpcodePc v).irqFlags = s.irqFlags := rfl
@[simp] theorem State.setOpcodePc_timestamp (s : State) (v : Word) : (s.setOpcodePc v).timestamp = s.timestamp := rfl
@[simp] theorem State.setOpcodePc_doubleSpeed (s : State) (v : Word) : (s.setOpcodePc v).doubleSpeed = s.doubleSpeed := rfl
@[simp] theorem State.setOpcodePc_speedSwitchPending (s : State) (v : Word) : (s.setOpcodePc v).speedSwitchPending = s.speedSwitchPending := rfl
@[simp] theorem State.setOpcodePc_fault (s : State) (v : Word) : (s.setOpcodePc v).fault = s.fault := rfl
@[simp] theorem State.setOpcodePc_haltBugPending (s : State) (v : Word) : (s.setOpcodePc v).haltBugPending = s.haltBugPending := rfl
@[simp] theorem State.setOpcodePc_elapsed (s : State) (v : Word) : (s.setOpcodePc v).elapsed = s.elapsed := rfl
@[simp] theorem State.setOpcodePc_mem (s : State) (v : Word) : (s.setOpcodePc v).mem = s.mem := rfl
@[simp] theorem State.setOpcodePc_params (s : State) (v : Word) : (s.setOpcodePc v).params = s.params := rfl
@[simp] theorem State.setOpcodePc_env (s : State) (v : Word) : (s.setOpcodePc v).env = s.env := rfl
@[simp] theorem State.setOpcodePc_draws (s : State) (v : Word) : (s.setOpcodePc v).draws = s.draws := rfl
@[simp] theorem State.setOpcodePc_opcodePc (s : State) (v : Word) : (s.setOpcodePc v).opcodePc = v := rfl

/-! ### `spend` -/

@[simp] theorem State.spend_a (s : State) (n : Nat) : (s.spend n).a = s.a := rfl
@[simp] theorem State.spend_b (s : State) (n : Nat) : (s.spend n).b = s.b := rfl
@[simp] theorem State.spend_c (s : State) (n : Nat) : (s.spend n).c = s.c := rfl
@[simp] theorem State.spend_d (s : State) (n : Nat) : (s.spend n).d = s.d := rfl
@[simp] theorem State.spend_e (s : State) (n : Nat) : (s.spend n).e = s.e := rfl
@[simp] theorem State.spend_h (s : State) (n : Nat) : (s.spend n).h = s.h := rfl
@[simp] theorem State.spend_l (s : State) (n : Nat) : (s.spend n).l = s.l := rfl
@[simp] theorem State.spend_flags (s : State) (n : Nat) : (s.spend n).flags = s.flags := rfl
@[simp] theorem State.spend_sp (s : State) (n : Nat) : (s.spend n).sp = s.sp := rfl
@[simp] theorem State.spend_pc (s : State) (n : Nat) : (s.spend n).pc = s.pc := rfl
@[simp] theorem State.spend_ime (s : State) (n : Nat) : (s.spend n).ime = s.ime := rfl
@[simp] theorem State.spend_imeNext (s : State) (n : Nat) : (s.spend n).imeNext = s.imeNext := rfl
@[simp] theorem State.spend_halted (s : State) (n : Nat) : (s.spend n).halted = s.halted := rfl
@[simp] theorem State.spend_irqEnable (s : State) (n : Nat) : (s.spend n).irqEnable = s.irqEnable := rfl
@[simp] theorem State.spend_irqFlags (s : State) (n : Nat) : (s.spend n).irqFlags = s.irqFlags := rfl
@[simp] theorem State.spend_timestamp (s : State) (n : Nat) : (s.spend n).timestamp = s.timestamp + n := rfl
@[simp] theorem State.spend_doubleSpeed (s : State) (n : Nat) : (s.spend n).doubleSpeed = s.doubleSpeed := rfl
@[simp] theorem State.spend_speedSwitchPending (s : State) (n : Nat) : (s.spend n).speedSwitchPending = s.speedSwitchPending := rfl
@[simp] theorem State.spend_fault (s : State) (n : Nat) : (s.spend n).fault = s.fault := rfl
@[simp] theorem State.spend_haltBugPending (s : State) (n : Nat) : (s.spend n).haltBugPending = s.haltBugPending := rfl
@[simp] theorem State.spend_elapsed (s : State) (n : Nat) : (s.spend n).elapsed = s.elapsed + n := rfl
@[simp] theorem State.spend_mem (s : State) (n : Nat) : (s.spend n).mem = s.mem := rfl
@[simp] theorem State.spend_params (s : State) (n : Nat) : (s.spend n).params = s.params := rfl
@[simp] theorem State.spend_env (s : State) (n : Nat) : (s.spend n).env = s.env := rfl
@[simp] theorem State.spend_draws (s : State) (n : Nat) : (s.spend n).draws = s.draws := rfl
@[simp] theorem State.spend_opcodePc (s : State) (n : Nat) : (s.spend n).opcodePc = s.opcodePc := rfl

/-! ### `switchSpeed` -/

@[simp] theorem State.switchSpeed_a (s : State) : (s.switchSpeed).a = s.a := rfl
@[simp] theorem State.switchSpeed_b (s : State) : (s.switchSpeed).b = s.b := rfl
@[simp] theorem State.switchSpeed_c (s : State) : (s.switchSpeed).c = s.c := rfl
@[simp] theorem State.switchSpeed_d (s : State) : (s.switchSpeed).d = s.d := rfl
@[simp] theorem State.switchSpeed_e (s : State) : (s.switchSpeed).e = s.e := rfl
@[simp] theorem State.switchSpeed_h (s : State) : (s.switchSpeed).h = s.h := rfl
@[simp] theorem State.switchSpeed_l (s : State) : (s.switchSpeed).l = s.l := rfl
@[simp] theorem State.switchSpeed_flags (s : State) : (s.switchSpeed).flags = s.flags := rfl
@[simp] theorem State.switchSpeed_sp (s : State) : (s.switchSpeed).sp = s.sp := rfl
@[simp] theorem State.switchSpeed_pc (s : State) : (s.switchSpeed).pc = s.pc := rfl
@[simp] theorem State.switchSpeed_ime (s : State) : (s.switchSpeed).ime = s.ime := rfl
@[simp] theorem State.switchSpeed_imeNext (s : State) : (s.switchSpeed).imeNext = s.imeNext := rfl
@[simp] theorem State.switchSpeed_halted (s : State) : (s.switchSpeed).halted = s.halted := rfl
@[simp] theorem State.switchSpeed_irqEnable (s : State) : (s.switchSpeed).irqEnable = s.irqEnable := rfl
@[simp] theorem State.switchSpeed_irqFlags (s : State) : (s.switchSpeed).irqFlags = s.irqFlags := rfl
@[simp] theorem State.switchSpeed_timestamp (s : State) : (s.switchSpeed).timestamp = s.timestamp := rfl
@[simp] theorem State.switchSpeed_doubleSpeed (s : State) : (s.switchSpeed).doubleSpeed = !s.doubleSpeed := rfl
@[simp] theorem State.switchSpeed_speedSwitchPending (s : State) : (s.switchSpeed).speedSwitchPending = false := rfl
@[simp] theorem State.switchSpeed_fault (s : State) : (s.switchSpeed).fault = s.fault := rfl
@[simp] theorem State.switchSpeed_haltBugPending (s : State) : (s.switchSpeed).haltBugPending = s.haltBugPending := rfl
@[simp] theorem State.switchSpeed_elapsed (s : State) : (s.switchSpeed).elapsed = s.elapsed := rfl
@[simp] theorem State.switchSpeed_mem (s : State) : (s.switchSpeed).mem = s.mem := rfl
@[simp] theorem State.switchSpeed_params (s : State) : (s.switchSpeed).params = s.params := rfl
@[simp] theorem State.switchSpeed_env (s : State) : (s.switchSpeed).env = s.env := rfl
@[simp] theorem State.switchSpeed_draws (s : State) : (s.switchSpeed).draws = s.draws := rfl
@[simp] theorem State.switchSpeed_opcodePc (s : State) : (s.switchSpeed).opcodePc = s.opcodePc := rfl

/-! ### `raiseInterrupt` -/

@[simp] theorem State.raiseInterrupt_a (s : State) (i : Fin 5) : (s.raiseInterrupt i).a = s.a := rfl
@[simp] theorem State.raiseInterrupt_b (s : State) (i : Fin 5) : (s.raiseInterrupt i).b = s.b := rfl
@[simp] theorem State.raiseInterrupt_c (s : State) (i : Fin 5) : (s.raiseInterrupt i).c = s.c := rfl
@[simp] theorem State.raiseInterrupt_d (s : State) (i : Fin 5) : (s.raiseInterrupt i).d = s.d := rfl
@[simp] theorem State.raiseInterrupt_e (s : State) (i : Fin 5) : (s.raiseInterrupt i).e = s.e := rfl
@[simp] theorem State.raiseInterrupt_h (s : State) (i : Fin 5) : (s.raiseInterrupt i).h = s.h := rfl
@[simp] theorem State.raiseInterrupt_l (s : State) (i : Fin 5) : (s.raiseInterrupt i).l = s.l := rfl
@[simp] theorem State.raiseInterrupt_flags (s : State) (i : Fin 5) : (s.raiseInterrupt i).flags = s.flags := rfl
@[simp] theorem State.raiseInterrupt_sp (s : State) (i : Fin 5) : (s.raiseInterrupt i).sp = s.sp := rfl
@[simp] theorem State.raiseInterrupt_pc (s : State) (i : Fin 5) : (s.raiseInterrupt i).pc = s.pc := rfl
@[simp] theorem State.raiseInterrupt_ime (s : State) (i : Fin 5) : (s.raiseInterrupt i).ime = s.ime := rfl
@[simp] theorem State.raiseInterrupt_imeNext (s : State) (i : Fin 5) : (s.raiseInterrupt i).imeNext = s.imeNext := rfl
@[simp] theorem State.raiseInterrupt_halted (s : State) (i : Fin 5) : (s.raiseInterrupt i).halted = s.halted := rfl
@[simp] theorem State.raiseInterrupt_irqEnable (s : State) (i : Fin 5) : (s.raiseInterrupt i).irqEnable = s.irqEnable := rfl
@[simp] theorem State.raiseInterrupt_irqFlags (s : State) (i : Fin 5) : (s.raiseInterrupt i).irqFlags = s.irqFlags ||| (1#5 <<< i.val) := rfl
@[simp] theorem State.raiseInterrupt_timestamp (s : State) (i : Fin 5) : (s.raiseInterrupt i).timestamp = s.timestamp := rfl
@[simp] theorem State.raiseInterrupt_doubleSpeed (s : State) (i : Fin 5) : (s.raiseInterrupt i).doubleSpeed = s.doubleSpeed := rfl
@[simp] theorem State.raiseInterrupt_speedSwitchPending (s : State) (i : Fin 5) : (s.raiseInterrupt i).speedSwitchPending = s.speedSwitchPending := rfl
@[simp] theorem State.raiseInterrupt_fault (s : State) (i : Fin 5) : (s.raiseInterrupt i).fault = s.fault := rfl
@[simp] theorem State.raiseInterrupt_haltBugPending (s : State) (i : Fin 5) : (s.raiseInterrupt i).haltBugPending = s.haltBugPending := rfl
@[simp] theorem State.raiseInterrupt_elapsed (s : State) (i : Fin 5) : (s.raiseInterrupt i).elapsed = s.elapsed := rfl
@[simp] theorem State.raiseInterrupt_mem (s : State) (i : Fin 5) : (s.raiseInterrupt i).mem = s.mem := rfl
@[simp] theorem State.raiseInterrupt_params (s : State) (i : Fin 5) : (s.raiseInterrupt i).params = s.params := rfl
@[simp] theorem State.raiseInterrupt_env (s : State) (i : Fin 5) : (s.raiseInterrupt i).env = s.env := rfl
@[simp] theorem State.raiseInterrupt_draws (s : State) (i : Fin 5) : (s.raiseInterrupt i).draws = s.draws := rfl
@[simp] theorem State.raiseInterrupt_opcodePc (s : State) (i : Fin 5) : (s.raiseInterrupt i).opcodePc = s.opcodePc := rfl

/-! ### `armSpeedSwitch` -/

@[simp] theorem State.armSpeedSwitch_a (s : State) : (s.armSpeedSwitch).a = s.a := rfl
@[simp] theorem State.armSpeedSwitch_b (s : State) : (s.armSpeedSwitch).b = s.b := rfl
@[simp] theorem State.armSpeedSwitch_c (s : State) : (s.armSpeedSwitch).c = s.c := rfl
@[simp] theorem State.armSpeedSwitch_d (s : State) : (s.armSpeedSwitch).d = s.d := rfl
@[simp] theorem State.armSpeedSwitch_e (s : State) : (s.armSpeedSwitch).e = s.e := rfl
@[simp] theorem State.armSpeedSwitch_h (s : State) : (s.armSpeedSwitch).h = s.h := rfl
@[simp] theorem State.armSpeedSwitch_l (s : State) : (s.armSpeedSwitch).l = s.l := rfl
@[simp] theorem State.armSpeedSwitch_flags (s : State) : (s.armSpeedSwitch).flags = s.flags := rfl
@[simp] theorem State.armSpeedSwitch_sp (s : State) : (s.armSpeedSwitch).sp = s.sp := rfl
@[simp] theorem State.armSpeedSwitch_pc (s : State) : (s.armSpeedSwitch).pc = s.pc := rfl
@[simp] theorem State.armSpeedSwitch_ime (s : State) : (s.armSpeedSwitch).ime = s.ime := rfl
@[simp] theorem State.armSpeedSwitch_imeNext (s : State) : (s.armSpeedSwitch).imeNext = s.imeNext := rfl
@[simp] theorem State.armSpeedSwitch_halted (s : State) : (s.armSpeedSwitch).halted = s.halted := rfl
@[simp] theorem State.armSpeedSwitch_irqEnable (s : State) : (s.armSpeedSwitch).irqEnable = s.irqEnable := rfl
@[simp] theorem State.armSpeedSwitch_irqFlags (s : State) : (s.armSpeedSwitch).irqFlags = s.irqFlags := rfl
@[simp] theorem State.armSpeedSwitch_timestamp (s : State) : (s.armSpeedSwitch).timestamp = s.timestamp := rfl
@[simp] theorem State.armSpeedSwitch_doubleSpeed (s : State) : (s.armSpeedSwitch).doubleSpeed = s.doubleSpeed := rfl
@[simp] theorem State.armSpeedSwitch_speedSwitchPending (s : State) : (s.armSpeedSwitch).speedSwitchPending = true := rfl
@[simp] theorem State.armSpeedSwitch_fault (s : State) : (s.armSpeedSwitch).fault = s.fault := rfl
@[simp] theorem State.armSpeedSwitch_haltBugPending (s : State) : (s.armSpeedSwitch).haltBugPending = s.haltBugPending := rfl
@[simp] theorem State.armSpeedSwitch_elapsed (s : State) : (s.armSpeedSwitch).elapsed = s.elapsed := rfl
@[simp] theorem State.armSpeedSwitch_mem (s : State) : (s.armSpeedSwitch).mem = s.mem := rfl
@[simp] theorem State.armSpeedSwitch_params (s : State) : (s.armSpeedSwitch).params = s.params := rfl
@[simp] theorem State.armSpeedSwitch_env (s : State) : (s.armSpeedSwitch).env = s.env := rfl
@[simp] theorem State.armSpeedSwitch_draws (s : State) : (s.armSpeedSwitch).draws = s.draws := rfl
@[simp] theorem State.armSpeedSwitch_opcodePc (s : State) : (s.armSpeedSwitch).opcodePc = s.opcodePc := rfl

/-! ### `raiseFatal` -/

@[simp] theorem State.raiseFatal_a (s : State) (k : Fault) : (s.raiseFatal k).a = s.a := rfl
@[simp] theorem State.raiseFatal_b (s : State) (k : Fault) : (s.raiseFatal k).b = s.b := rfl
@[simp] theorem State.raiseFatal_c (s : State) (k : Fault) : (s.raiseFatal k).c = s.c := rfl
@[simp] theorem State.raiseFatal_d (s : State) (k : Fault) : (s.raiseFatal k).d = s.d := rfl
@[simp] theorem State.raiseFatal_e (s : State) (k : Fault) : (s.raiseFatal k).e = s.e := rfl
@[simp] theorem State.raiseFatal_h (s : State) (k : Fault) : (s.raiseFatal k).h = s.h := rfl
@[simp] theorem State.raiseFatal_l (s : State) (k : Fault) : (s.raiseFatal k).l = s.l := rfl
@[simp] theorem State.raiseFatal_flags (s : State) (k : Fault) : (s.raiseFatal k).flags = s.flags := rfl
@[simp] theorem State.raiseFatal_sp (s : State) (k : Fault) : (s.raiseFatal k).sp = s.sp := rfl
@[simp] theorem State.raiseFatal_pc (s : State) (k : Fault) : (s.raiseFatal k).pc = k.pc := rfl
@[simp] theorem State.raiseFatal_ime (s : State) (k : Fault) : (s.raiseFatal k).ime = s.ime := rfl
@[simp] theorem State.raiseFatal_imeNext (s : State) (k : Fault) : (s.raiseFatal k).imeNext = s.imeNext := rfl
@[simp] theorem State.raiseFatal_halted (s : State) (k : Fault) : (s.raiseFatal k).halted = s.halted := rfl
@[simp] theorem State.raiseFatal_irqEnable (s : State) (k : Fault) : (s.raiseFatal k).irqEnable = s.irqEnable := rfl
@[simp] theorem State.raiseFatal_irqFlags (s : State) (k : Fault) : (s.raiseFatal k).irqFlags = s.irqFlags := rfl
@[simp] theorem State.raiseFatal_timestamp (s : State) (k : Fault) : (s.raiseFatal k).timestamp = s.timestamp := rfl
@[simp] theorem State.raiseFatal_doubleSpeed (s : State) (k : Fault) : (s.raiseFatal k).doubleSpeed = s.doubleSpeed := rfl
@[simp] theorem State.raiseFatal_speedSwitchPending (s : State) (k : Fault) : (s.raiseFatal k).speedSwitchPending = s.speedSwitchPending := rfl
@[simp] theorem State.raiseFatal_fault (s : State) (k : Fault) : (s.raiseFatal k).fault = some k := rfl
@[simp] theorem State.raiseFatal_haltBugPending (s : State) (k : Fault) : (s.raiseFatal k).haltBugPending = s.haltBugPending := rfl
@[simp] theorem State.raiseFatal_elapsed (s : State) (k : Fault) : (s.raiseFatal k).elapsed = s.elapsed := rfl
@[simp] theorem State.raiseFatal_mem (s : State) (k : Fault) : (s.raiseFatal k).mem = s.mem := rfl
@[simp] theorem State.raiseFatal_params (s : State) (k : Fault) : (s.raiseFatal k).params = s.params := rfl
@[simp] theorem State.raiseFatal_env (s : State) (k : Fault) : (s.raiseFatal k).env = s.env := rfl
@[simp] theorem State.raiseFatal_draws (s : State) (k : Fault) : (s.raiseFatal k).draws = s.draws := rfl
@[simp] theorem State.raiseFatal_opcodePc (s : State) (k : Fault) : (s.raiseFatal k).opcodePc = s.opcodePc := rfl

/-! ### `applyFlags` -/

@[simp] theorem State.applyFlags_a (s : State) (u : FlagUpdate) : (s.applyFlags u).a = s.a := rfl
@[simp] theorem State.applyFlags_b (s : State) (u : FlagUpdate) : (s.applyFlags u).b = s.b := rfl
@[simp] theorem State.applyFlags_c (s : State) (u : FlagUpdate) : (s.applyFlags u).c = s.c := rfl
@[simp] theorem State.applyFlags_d (s : State) (u : FlagUpdate) : (s.applyFlags u).d = s.d := rfl
@[simp] theorem State.applyFlags_e (s : State) (u : FlagUpdate) : (s.applyFlags u).e = s.e := rfl
@[simp] theorem State.applyFlags_h (s : State) (u : FlagUpdate) : (s.applyFlags u).h = s.h := rfl
@[simp] theorem State.applyFlags_l (s : State) (u : FlagUpdate) : (s.applyFlags u).l = s.l := rfl
@[simp] theorem State.applyFlags_flags (s : State) (u : FlagUpdate) : (s.applyFlags u).flags = u.apply s.flags := rfl
@[simp] theorem State.applyFlags_sp (s : State) (u : FlagUpdate) : (s.applyFlags u).sp = s.sp := rfl
@[simp] theorem State.applyFlags_pc (s : State) (u : FlagUpdate) : (s.applyFlags u).pc = s.pc := rfl
@[simp] theorem State.applyFlags_ime (s : State) (u : FlagUpdate) : (s.applyFlags u).ime = s.ime := rfl
@[simp] theorem State.applyFlags_imeNext (s : State) (u : FlagUpdate) : (s.applyFlags u).imeNext = s.imeNext := rfl
@[simp] theorem State.applyFlags_halted (s : State) (u : FlagUpdate) : (s.applyFlags u).halted = s.halted := rfl
@[simp] theorem State.applyFlags_irqEnable (s : State) (u : FlagUpdate) : (s.applyFlags u).irqEnable = s.irqEnable := rfl
@[simp] theorem State.applyFlags_irqFlags (s : State) (u : FlagUpdate) : (s.applyFlags u).irqFlags = s.irqFlags := rfl
@[simp] theorem State.applyFlags_timestamp (s : State) (u : FlagUpdate) : (s.applyFlags u).timestamp = s.timestamp := rfl
@[simp] theorem State.applyFlags_doubleSpeed (s : State) (u : FlagUpdate) : (s.applyFlags u).doubleSpeed = s.doubleSpeed := rfl
@[simp] theorem State.applyFlags_speedSwitchPending (s : State) (u : FlagUpdate) : (s.applyFlags u).speedSwitchPending = s.speedSwitchPending := rfl
@[simp] theorem State.applyFlags_fault (s : State) (u : FlagUpdate) : (s.applyFlags u).fault = s.fault := rfl
@[simp] theorem State.applyFlags_haltBugPending (s : State) (u : FlagUpdate) : (s.applyFlags u).haltBugPending = s.haltBugPending := rfl
@[simp] theorem State.applyFlags_elapsed (s : State) (u : FlagUpdate) : (s.applyFlags u).elapsed = s.elapsed := rfl
@[simp] theorem State.applyFlags_mem (s : State) (u : FlagUpdate) : (s.applyFlags u).mem = s.mem := rfl
@[simp] theorem State.applyFlags_params (s : State) (u : FlagUpdate) : (s.applyFlags u).params = s.params := rfl
@[simp] theorem State.applyFlags_env (s : State) (u : FlagUpdate) : (s.applyFlags u).env = s.env := rfl
@[simp] theorem State.applyFlags_draws (s : State) (u : FlagUpdate) : (s.applyFlags u).draws = s.draws := rfl
@[simp] theorem State.applyFlags_opcodePc (s : State) (u : FlagUpdate) : (s.applyFlags u).opcodePc = s.opcodePc := rfl

/-! ### `setBc` -/

@[simp] theorem State.setBc_a (s : State) (v : Word) : (s.setBc v).a = s.a := rfl
@[simp] theorem State.setBc_b (s : State) (v : Word) : (s.setBc v).b = hiByte v := rfl
@[simp] theorem State.setBc_c (s : State) (v : Word) : (s.setBc v).c = loByte v := rfl
@[simp] theorem State.setBc_d (s : State) (v : Word) : (s.setBc v).d = s.d := rfl
@[simp] theorem State.setBc_e (s : State) (v : Word) : (s.setBc v).e = s.e := rfl
@[simp] theorem State.setBc_h (s : State) (v : Word) : (s.setBc v).h = s.h := rfl
@[simp] theorem State.setBc_l (s : State) (v : Word) : (s.setBc v).l = s.l := rfl
@[simp] theorem State.setBc_flags (s : State) (v : Word) : (s.setBc v).flags = s.flags := rfl
@[simp] theorem State.setBc_sp (s : State) (v : Word) : (s.setBc v).sp = s.sp := rfl
@[simp] theorem State.setBc_pc (s : State) (v : Word) : (s.setBc v).pc = s.pc := rfl
@[simp] theorem State.setBc_ime (s : State) (v : Word) : (s.setBc v).ime = s.ime := rfl
@[simp] theorem State.setBc_imeNext (s : State) (v : Word) : (s.setBc v).imeNext = s.imeNext := rfl
@[simp] theorem State.setBc_halted (s : State) (v : Word) : (s.setBc v).halted = s.halted := rfl
@[simp] theorem State.setBc_irqEnable (s : State) (v : Word) : (s.setBc v).irqEnable = s.irqEnable := rfl
@[simp] theorem State.setBc_irqFlags (s : State) (v : Word) : (s.setBc v).irqFlags = s.irqFlags := rfl
@[simp] theorem State.setBc_timestamp (s : State) (v : Word) : (s.setBc v).timestamp = s.timestamp := rfl
@[simp] theorem State.setBc_doubleSpeed (s : State) (v : Word) : (s.setBc v).doubleSpeed = s.doubleSpeed := rfl
@[simp] theorem State.setBc_speedSwitchPending (s : State) (v : Word) : (s.setBc v).speedSwitchPending = s.speedSwitchPending := rfl
@[simp] theorem State.setBc_fault (s : State) (v : Word) : (s.setBc v).fault = s.fault := rfl
@[simp] theorem State.setBc_haltBugPending (s : State) (v : Word) : (s.setBc v).haltBugPending = s.haltBugPending := rfl
@[simp] theorem State.setBc_elapsed (s : State) (v : Word) : (s.setBc v).elapsed = s.elapsed := rfl
@[simp] theorem State.setBc_mem (s : State) (v : Word) : (s.setBc v).mem = s.mem := rfl
@[simp] theorem State.setBc_params (s : State) (v : Word) : (s.setBc v).params = s.params := rfl
@[simp] theorem State.setBc_env (s : State) (v : Word) : (s.setBc v).env = s.env := rfl
@[simp] theorem State.setBc_draws (s : State) (v : Word) : (s.setBc v).draws = s.draws := rfl
@[simp] theorem State.setBc_opcodePc (s : State) (v : Word) : (s.setBc v).opcodePc = s.opcodePc := rfl

/-! ### `setDe` -/

@[simp] theorem State.setDe_a (s : State) (v : Word) : (s.setDe v).a = s.a := rfl
@[simp] theorem State.setDe_b (s : State) (v : Word) : (s.setDe v).b = s.b := rfl
@[simp] theorem State.setDe_c (s : State) (v : Word) : (s.setDe v).c = s.c := rfl
@[simp] theorem State.setDe_d (s : State) (v : Word) : (s.setDe v).d = hiByte v := rfl
@[simp] theorem State.setDe_e (s : State) (v : Word) : (s.setDe v).e = loByte v := rfl
@[simp] theorem State.setDe_h (s : State) (v : Word) : (s.setDe v).h = s.h := rfl
@[simp] theorem State.setDe_l (s : State) (v : Word) : (s.setDe v).l = s.l := rfl
@[simp] theorem State.setDe_flags (s : State) (v : Word) : (s.setDe v).flags = s.flags := rfl
@[simp] theorem State.setDe_sp (s : State) (v : Word) : (s.setDe v).sp = s.sp := rfl
@[simp] theorem State.setDe_pc (s : State) (v : Word) : (s.setDe v).pc = s.pc := rfl
@[simp] theorem State.setDe_ime (s : State) (v : Word) : (s.setDe v).ime = s.ime := rfl
@[simp] theorem State.setDe_imeNext (s : State) (v : Word) : (s.setDe v).imeNext = s.imeNext := rfl
@[simp] theorem State.setDe_halted (s : State) (v : Word) : (s.setDe v).halted = s.halted := rfl
@[simp] theorem State.setDe_irqEnable (s : State) (v : Word) : (s.setDe v).irqEnable = s.irqEnable := rfl
@[simp] theorem State.setDe_irqFlags (s : State) (v : Word) : (s.setDe v).irqFlags = s.irqFlags := rfl
@[simp] theorem State.setDe_timestamp (s : State) (v : Word) : (s.setDe v).timestamp = s.timestamp := rfl
@[simp] theorem State.setDe_doubleSpeed (s : State) (v : Word) : (s.setDe v).doubleSpeed = s.doubleSpeed := rfl
@[simp] theorem State.setDe_speedSwitchPending (s : State) (v : Word) : (s.setDe v).speedSwitchPending = s.speedSwitchPending := rfl
@[simp] theorem State.setDe_fault (s : State) (v : Word) : (s.setDe v).fault = s.fault := rfl
@[simp] theorem State.setDe_haltBugPending (s : State) (v : Word) : (s.setDe v).haltBugPending = s.haltBugPending := rfl
@[simp] theorem State.setDe_elapsed (s : State) (v : Word) : (s.setDe v).elapsed = s.elapsed := rfl
@[simp] theorem State.setDe_mem (s : State) (v : Word) : (s.setDe v).mem = s.mem := rfl
@[simp] theorem State.setDe_params (s : State) (v : Word) : (s.setDe v).params = s.params := rfl
@[simp] theorem State.setDe_env (s : State) (v : Word) : (s.setDe v).env = s.env := rfl
@[simp] theorem State.setDe_draws (s : State) (v : Word) : (s.setDe v).draws = s.draws := rfl
@[simp] theorem State.setDe_opcodePc (s : State) (v : Word) : (s.setDe v).opcodePc = s.opcodePc := rfl

/-! ### `setHl` -/

@[simp] theorem State.setHl_a (s : State) (v : Word) : (s.setHl v).a = s.a := rfl
@[simp] theorem State.setHl_b (s : State) (v : Word) : (s.setHl v).b = s.b := rfl
@[simp] theorem State.setHl_c (s : State) (v : Word) : (s.setHl v).c = s.c := rfl
@[simp] theorem State.setHl_d (s : State) (v : Word) : (s.setHl v).d = s.d := rfl
@[simp] theorem State.setHl_e (s : State) (v : Word) : (s.setHl v).e = s.e := rfl
@[simp] theorem State.setHl_h (s : State) (v : Word) : (s.setHl v).h = hiByte v := rfl
@[simp] theorem State.setHl_l (s : State) (v : Word) : (s.setHl v).l = loByte v := rfl
@[simp] theorem State.setHl_flags (s : State) (v : Word) : (s.setHl v).flags = s.flags := rfl
@[simp] theorem State.setHl_sp (s : State) (v : Word) : (s.setHl v).sp = s.sp := rfl
@[simp] theorem State.setHl_pc (s : State) (v : Word) : (s.setHl v).pc = s.pc := rfl
@[simp] theorem State.setHl_ime (s : State) (v : Word) : (s.setHl v).ime = s.ime := rfl
@[simp] theorem State.setHl_imeNext (s : State) (v : Word) : (s.setHl v).imeNext = s.imeNext := rfl
@[simp] theorem State.setHl_halted (s : State) (v : Word) : (s.setHl v).halted = s.halted := rfl
@[simp] theorem State.setHl_irqEnable (s : State) (v : Word) : (s.setHl v).irqEnable = s.irqEnable := rfl
@[simp] theorem State.setHl_irqFlags (s : State) (v : Word) : (s.setHl v).irqFlags = s.irqFlags := rfl
@[simp] theorem State.setHl_timestamp (s : State) (v : Word) : (s.setHl v).timestamp = s.timestamp := rfl
@[simp] theorem State.setHl_doubleSpeed (s : State) (v : Word) : (s.setHl v).doubleSpeed = s.doubleSpeed := rfl
@[simp] theorem State.setHl_speedSwitchPending (s : State) (v : Word) : (s.setHl v).speedSwitchPending = s.speedSwitchPending := rfl
@[simp] theorem State.setHl_fault (s : State) (v : Word) : (s.setHl v).fault = s.fault := rfl
@[simp] theorem State.setHl_haltBugPending (s : State) (v : Word) : (s.setHl v).haltBugPending = s.haltBugPending := rfl
@[simp] theorem State.setHl_elapsed (s : State) (v : Word) : (s.setHl v).elapsed = s.elapsed := rfl
@[simp] theorem State.setHl_mem (s : State) (v : Word) : (s.setHl v).mem = s.mem := rfl
@[simp] theorem State.setHl_params (s : State) (v : Word) : (s.setHl v).params = s.params := rfl
@[simp] theorem State.setHl_env (s : State) (v : Word) : (s.setHl v).env = s.env := rfl
@[simp] theorem State.setHl_draws (s : State) (v : Word) : (s.setHl v).draws = s.draws := rfl
@[simp] theorem State.setHl_opcodePc (s : State) (v : Word) : (s.setHl v).opcodePc = s.opcodePc := rfl

/-! ### `setAf` -/

@[simp] theorem State.setAf_a (s : State) (v : Word) : (s.setAf v).a = hiByte v := rfl
@[simp] theorem State.setAf_b (s : State) (v : Word) : (s.setAf v).b = s.b := rfl
@[simp] theorem State.setAf_c (s : State) (v : Word) : (s.setAf v).c = s.c := rfl
@[simp] theorem State.setAf_d (s : State) (v : Word) : (s.setAf v).d = s.d := rfl
@[simp] theorem State.setAf_e (s : State) (v : Word) : (s.setAf v).e = s.e := rfl
@[simp] theorem State.setAf_h (s : State) (v : Word) : (s.setAf v).h = s.h := rfl
@[simp] theorem State.setAf_l (s : State) (v : Word) : (s.setAf v).l = s.l := rfl
@[simp] theorem State.setAf_flags (s : State) (v : Word) : (s.setAf v).flags = Flags.unpack (loByte v) := rfl
@[simp] theorem State.setAf_sp (s : State) (v : Word) : (s.setAf v).sp = s.sp := rfl
@[simp] theorem State.setAf_pc (s : State) (v : Word) : (s.setAf v).pc = s.pc := rfl
@[simp] theorem State.setAf_ime (s : State) (v : Word) : (s.setAf v).ime = s.ime := rfl
@[simp] theorem State.setAf_imeNext (s : State) (v : Word) : (s.setAf v).imeNext = s.imeNext := rfl
@[simp] theorem State.setAf_halted (s : State) (v : Word) : (s.setAf v).halted = s.halted := rfl
@[simp] theorem State.setAf_irqEnable (s : State) (v : Word) : (s.setAf v).irqEnable = s.irqEnable := rfl
@[simp] theorem State.setAf_irqFlags (s : State) (v : Word) : (s.setAf v).irqFlags = s.irqFlags := rfl
@[simp] theorem State.setAf_timestamp (s : State) (v : Word) : (s.setAf v).timestamp = s.timestamp := rfl
@[simp] theorem State.setAf_doubleSpeed (s : State) (v : Word) : (s.setAf v).doubleSpeed = s.doubleSpeed := rfl
@[simp] theorem State.setAf_speedSwitchPending (s : State) (v : Word) : (s.setAf v).speedSwitchPending = s.speedSwitchPending := rfl
@[simp] theorem State.setAf_fault (s : State) (v : Word) : (s.setAf v).fault = s.fault := rfl
@[simp] theorem State.setAf_haltBugPending (s : State) (v : Word) : (s.setAf v).haltBugPending = s.haltBugPending := rfl
@[simp] theorem State.setAf_elapsed (s : State) (v : Word) : (s.setAf v).elapsed = s.elapsed := rfl
@[simp] theorem State.setAf_mem (s : State) (v : Word) : (s.setAf v).mem = s.mem := rfl
@[simp] theorem State.setAf_params (s : State) (v : Word) : (s.setAf v).params = s.params := rfl
@[simp] theorem State.setAf_env (s : State) (v : Word) : (s.setAf v).env = s.env := rfl
@[simp] theorem State.setAf_draws (s : State) (v : Word) : (s.setAf v).draws = s.draws := rfl
@[simp] theorem State.setAf_opcodePc (s : State) (v : Word) : (s.setAf v).opcodePc = s.opcodePc := rfl

/-! ### `setReg8` -/

@[simp] theorem State.setReg8_flags (s : State) (r : Reg8) (v : Byte) : (s.setReg8 r v).flags = s.flags := by cases r <;> rfl
@[simp] theorem State.setReg8_sp (s : State) (r : Reg8) (v : Byte) : (s.setReg8 r v).sp = s.sp := by cases r <;> rfl
@[simp] theorem State.setReg8_pc (s : State) (r : Reg8) (v : Byte) : (s.setReg8 r v).pc = s.pc := by cases r <;> rfl
@[simp] theorem State.setReg8_ime (s : State) (r : Reg8) (v : Byte) : (s.setReg8 r v).ime = s.ime := by cases r <;> rfl
@[simp] theorem State.setReg8_imeNext (s : State) (r : Reg8) (v : Byte) : (s.setReg8 r v).imeNext = s.imeNext := by cases r <;> rfl
@[simp] theorem State.setReg8_halted (s : State) (r : Reg8) (v : Byte) : (s.setReg8 r v).halted = s.halted := by cases r <;> rfl
@[simp] theorem State.setReg8_irqEnable (s : State) (r : Reg8) (v : Byte) : (s.setReg8 r v).irqEnable = s.irqEnable := by cases r <;> rfl
@[simp] theorem State.setReg8_irqFlags (s : State) (r : Reg8) (v : Byte) : (s.setReg8 r v).irqFlags = s.irqFlags := by cases r <;> rfl
@[simp] theorem State.setReg8_timestamp (s : State) (r : Reg8) (v : Byte) : (s.setReg8 r v).timestamp = s.timestamp := by cases r <;> rfl
@[simp] theorem State.setReg8_doubleSpeed (s : State) (r : Reg8) (v : Byte) : (s.setReg8 r v).doubleSpeed = s.doubleSpeed := by cases r <;> rfl
@[simp] theorem State.setReg8_speedSwitchPending (s : State) (r : Reg8) (v : Byte) : (s.setReg8 r v).speedSwitchPending = s.speedSwitchPending := by cases r <;> rfl
@[simp] theorem State.setReg8_fault (s : State) (r : Reg8) (v : Byte) : (s.setReg8 r v).fault = s.fault := by cases r <;> rfl
@[simp] theorem State.setReg8_haltBugPending (s : State) (r : Reg8) (v : Byte) : (s.setReg8 r v).haltBugPending = s.haltBugPending := by cases r <;> rfl
@[simp] theorem State.setReg8_elapsed (s : State) (r : Reg8) (v : Byte) : (s.setReg8 r v).elapsed = s.elapsed := by cases r <;> rfl
@[simp] theorem State.setReg8_mem (s : State) (r : Reg8) (v : Byte) : (s.setReg8 r v).mem = s.mem := by cases r <;> rfl
@[simp] theorem State.setReg8_params (s : State) (r : Reg8) (v : Byte) : (s.setReg8 r v).params = s.params := by cases r <;> rfl
@[simp] theorem State.setReg8_env (s : State) (r : Reg8) (v : Byte) : (s.setReg8 r v).env = s.env := by cases r <;> rfl
@[simp] theorem State.setReg8_draws (s : State) (r : Reg8) (v : Byte) : (s.setReg8 r v).draws = s.draws := by cases r <;> rfl
@[simp] theorem State.setReg8_opcodePc (s : State) (r : Reg8) (v : Byte) : (s.setReg8 r v).opcodePc = s.opcodePc := by cases r <;> rfl

/-! ### `setR16` -/

@[simp] theorem State.setR16_a (s : State) (p : R16) (v : Word) : (s.setR16 p v).a = s.a := by cases p <;> rfl
@[simp] theorem State.setR16_flags (s : State) (p : R16) (v : Word) : (s.setR16 p v).flags = s.flags := by cases p <;> rfl
@[simp] theorem State.setR16_pc (s : State) (p : R16) (v : Word) : (s.setR16 p v).pc = s.pc := by cases p <;> rfl
@[simp] theorem State.setR16_ime (s : State) (p : R16) (v : Word) : (s.setR16 p v).ime = s.ime := by cases p <;> rfl
@[simp] theorem State.setR16_imeNext (s : State) (p : R16) (v : Word) : (s.setR16 p v).imeNext = s.imeNext := by cases p <;> rfl
@[simp] theorem State.setR16_halted (s : State) (p : R16) (v : Word) : (s.setR16 p v).halted = s.halted := by cases p <;> rfl
@[simp] theorem State.setR16_irqEnable (s : State) (p : R16) (v : Word) : (s.setR16 p v).irqEnable = s.irqEnable := by cases p <;> rfl
@[simp] theorem State.setR16_irqFlags (s : State) (p : R16) (v : Word) : (s.setR16 p v).irqFlags = s.irqFlags := by cases p <;> rfl
@[simp] theorem State.setR16_timestamp (s : State) (p : R16) (v : Word) : (s.setR16 p v).timestamp = s.timestamp := by cases p <;> rfl
@[simp] theorem State.setR16_doubleSpeed (s : State) (p : R16) (v : Word) : (s.setR16 p v).doubleSpeed = s.doubleSpeed := by cases p <;> rfl
@[simp] theorem State.setR16_speedSwitchPending (s : State) (p : R16) (v : Word) : (s.setR16 p v).speedSwitchPending = s.speedSwitchPending := by cases p <;> rfl
@[simp] theorem State.setR16_fault (s : State) (p : R16) (v : Word) : (s.setR16 p v).fault = s.fault := by cases p <;> rfl
@[simp] theorem State.setR16_haltBugPending (s : State) (p : R16) (v : Word) : (s.setR16 p v).haltBugPending = s.haltBugPending := by cases p <;> rfl
@[simp] theorem State.setR16_elapsed (s : State) (p : R16) (v : Word) : (s.setR16 p v).elapsed = s.elapsed := by cases p <;> rfl
@[simp] theorem State.setR16_mem (s : State) (p : R16) (v : Word) : (s.setR16 p v).mem = s.mem := by cases p <;> rfl
@[simp] theorem State.setR16_params (s : State) (p : R16) (v : Word) : (s.setR16 p v).params = s.params := by cases p <;> rfl
@[simp] theorem State.setR16_env (s : State) (p : R16) (v : Word) : (s.setR16 p v).env = s.env := by cases p <;> rfl
@[simp] theorem State.setR16_draws (s : State) (p : R16) (v : Word) : (s.setR16 p v).draws = s.draws := by cases p <;> rfl
@[simp] theorem State.setR16_opcodePc (s : State) (p : R16) (v : Word) : (s.setR16 p v).opcodePc = s.opcodePc := by cases p <;> rfl

/-! ### `setR16stk` -/

@[simp] theorem State.setR16stk_sp (s : State) (p : R16stk) (v : Word) : (s.setR16stk p v).sp = s.sp := by cases p <;> rfl
@[simp] theorem State.setR16stk_pc (s : State) (p : R16stk) (v : Word) : (s.setR16stk p v).pc = s.pc := by cases p <;> rfl
@[simp] theorem State.setR16stk_ime (s : State) (p : R16stk) (v : Word) : (s.setR16stk p v).ime = s.ime := by cases p <;> rfl
@[simp] theorem State.setR16stk_imeNext (s : State) (p : R16stk) (v : Word) : (s.setR16stk p v).imeNext = s.imeNext := by cases p <;> rfl
@[simp] theorem State.setR16stk_halted (s : State) (p : R16stk) (v : Word) : (s.setR16stk p v).halted = s.halted := by cases p <;> rfl
@[simp] theorem State.setR16stk_irqEnable (s : State) (p : R16stk) (v : Word) : (s.setR16stk p v).irqEnable = s.irqEnable := by cases p <;> rfl
@[simp] theorem State.setR16stk_irqFlags (s : State) (p : R16stk) (v : Word) : (s.setR16stk p v).irqFlags = s.irqFlags := by cases p <;> rfl
@[simp] theorem State.setR16stk_timestamp (s : State) (p : R16stk) (v : Word) : (s.setR16stk p v).timestamp = s.timestamp := by cases p <;> rfl
@[simp] theorem State.setR16stk_doubleSpeed (s : State) (p : R16stk) (v : Word) : (s.setR16stk p v).doubleSpeed = s.doubleSpeed := by cases p <;> rfl
@[simp] theorem State.setR16stk_speedSwitchPending (s : State) (p : R16stk) (v : Word) : (s.setR16stk p v).speedSwitchPending = s.speedSwitchPending := by cases p <;> rfl
@[simp] theorem State.setR16stk_fault (s : State) (p : R16stk) (v : Word) : (s.setR16stk p v).fault = s.fault := by cases p <;> rfl
@[simp] theorem State.setR16stk_haltBugPending (s : State) (p : R16stk) (v : Word) : (s.setR16stk p v).haltBugPending = s.haltBugPending := by cases p <;> rfl
@[simp] theorem State.setR16stk_elapsed (s : State) (p : R16stk) (v : Word) : (s.setR16stk p v).elapsed = s.elapsed := by cases p <;> rfl
@[simp] theorem State.setR16stk_mem (s : State) (p : R16stk) (v : Word) : (s.setR16stk p v).mem = s.mem := by cases p <;> rfl
@[simp] theorem State.setR16stk_params (s : State) (p : R16stk) (v : Word) : (s.setR16stk p v).params = s.params := by cases p <;> rfl
@[simp] theorem State.setR16stk_env (s : State) (p : R16stk) (v : Word) : (s.setR16stk p v).env = s.env := by cases p <;> rfl
@[simp] theorem State.setR16stk_draws (s : State) (p : R16stk) (v : Word) : (s.setR16stk p v).draws = s.draws := by cases p <;> rfl
@[simp] theorem State.setR16stk_opcodePc (s : State) (p : R16stk) (v : Word) : (s.setR16stk p v).opcodePc = s.opcodePc := by cases p <;> rfl

/-! ### `r16memPost` -/

@[simp] theorem State.r16memPost_a (s : State) (m : R16mem) : (s.r16memPost m).a = s.a := by cases m <;> rfl
@[simp] theorem State.r16memPost_b (s : State) (m : R16mem) : (s.r16memPost m).b = s.b := by cases m <;> rfl
@[simp] theorem State.r16memPost_c (s : State) (m : R16mem) : (s.r16memPost m).c = s.c := by cases m <;> rfl
@[simp] theorem State.r16memPost_d (s : State) (m : R16mem) : (s.r16memPost m).d = s.d := by cases m <;> rfl
@[simp] theorem State.r16memPost_e (s : State) (m : R16mem) : (s.r16memPost m).e = s.e := by cases m <;> rfl
@[simp] theorem State.r16memPost_flags (s : State) (m : R16mem) : (s.r16memPost m).flags = s.flags := by cases m <;> rfl
@[simp] theorem State.r16memPost_sp (s : State) (m : R16mem) : (s.r16memPost m).sp = s.sp := by cases m <;> rfl
@[simp] theorem State.r16memPost_pc (s : State) (m : R16mem) : (s.r16memPost m).pc = s.pc := by cases m <;> rfl
@[simp] theorem State.r16memPost_ime (s : State) (m : R16mem) : (s.r16memPost m).ime = s.ime := by cases m <;> rfl
@[simp] theorem State.r16memPost_imeNext (s : State) (m : R16mem) : (s.r16memPost m).imeNext = s.imeNext := by cases m <;> rfl
@[simp] theorem State.r16memPost_halted (s : State) (m : R16mem) : (s.r16memPost m).halted = s.halted := by cases m <;> rfl
@[simp] theorem State.r16memPost_irqEnable (s : State) (m : R16mem) : (s.r16memPost m).irqEnable = s.irqEnable := by cases m <;> rfl
@[simp] theorem State.r16memPost_irqFlags (s : State) (m : R16mem) : (s.r16memPost m).irqFlags = s.irqFlags := by cases m <;> rfl
@[simp] theorem State.r16memPost_timestamp (s : State) (m : R16mem) : (s.r16memPost m).timestamp = s.timestamp := by cases m <;> rfl
@[simp] theorem State.r16memPost_doubleSpeed (s : State) (m : R16mem) : (s.r16memPost m).doubleSpeed = s.doubleSpeed := by cases m <;> rfl
@[simp] theorem State.r16memPost_speedSwitchPending (s : State) (m : R16mem) : (s.r16memPost m).speedSwitchPending = s.speedSwitchPending := by cases m <;> rfl
@[simp] theorem State.r16memPost_fault (s : State) (m : R16mem) : (s.r16memPost m).fault = s.fault := by cases m <;> rfl
@[simp] theorem State.r16memPost_haltBugPending (s : State) (m : R16mem) : (s.r16memPost m).haltBugPending = s.haltBugPending := by cases m <;> rfl
@[simp] theorem State.r16memPost_elapsed (s : State) (m : R16mem) : (s.r16memPost m).elapsed = s.elapsed := by cases m <;> rfl
@[simp] theorem State.r16memPost_mem (s : State) (m : R16mem) : (s.r16memPost m).mem = s.mem := by cases m <;> rfl
@[simp] theorem State.r16memPost_params (s : State) (m : R16mem) : (s.r16memPost m).params = s.params := by cases m <;> rfl
@[simp] theorem State.r16memPost_env (s : State) (m : R16mem) : (s.r16memPost m).env = s.env := by cases m <;> rfl
@[simp] theorem State.r16memPost_draws (s : State) (m : R16mem) : (s.r16memPost m).draws = s.draws := by cases m <;> rfl
@[simp] theorem State.r16memPost_opcodePc (s : State) (m : R16mem) : (s.r16memPost m).opcodePc = s.opcodePc := by cases m <;> rfl

/-! ### Reads of 8-bit registers and of memory under the updates -/

@[simp] theorem State.setPc_reg8 (s : State) (v : Word) (r : Reg8) : (s.setPc v).reg8 r = s.reg8 r := by cases r <;> rfl
@[simp] theorem State.setSp_reg8 (s : State) (v : Word) (r : Reg8) : (s.setSp v).reg8 r = s.reg8 r := by cases r <;> rfl
@[simp] theorem State.setIme_reg8 (s : State) (v w : Bool) (r : Reg8) : (s.setIme v w).reg8 r = s.reg8 r := by cases r <;> rfl
@[simp] theorem State.setHalted_reg8 (s : State) (v : Bool) (r : Reg8) : (s.setHalted v).reg8 r = s.reg8 r := by cases r <;> rfl
@[simp] theorem State.setHaltBugPending_reg8 (s : State) (v : Bool) (r : Reg8) : (s.setHaltBugPending v).reg8 r = s.reg8 r := by cases r <;> rfl
@[simp] theorem State.setIrqFlags_reg8 (s : State) (v : BitVec 5) (r : Reg8) : (s.setIrqFlags v).reg8 r = s.reg8 r := by cases r <;> rfl
@[simp] theorem State.setIrqEnable_reg8 (s : State) (v : BitVec 5) (r : Reg8) : (s.setIrqEnable v).reg8 r = s.reg8 r := by cases r <;> rfl
@[simp] theorem State.setMem_reg8 (s : State) (m : Memory) (r : Reg8) : (s.setMem m).reg8 r = s.reg8 r := by cases r <;> rfl
@[simp] theorem State.setOpcodePc_reg8 (s : State) (v : Word) (r : Reg8) : (s.setOpcodePc v).reg8 r = s.reg8 r := by cases r <;> rfl
@[simp] theorem State.spend_reg8 (s : State) (n : Nat) (r : Reg8) : (s.spend n).reg8 r = s.reg8 r := by cases r <;> rfl

@[simp] theorem Word.sub_one_sub_one (v : Word) : v - 1#16 - 1#16 = v - 2#16 := by bv_omega

@[simp] theorem Word.add_one_add_one (v : Word) : v + 1#16 + 1#16 = v + 2#16 := by bv_omega

/-! ### Registers and pairs -/

/-- A write of an 8-bit register changes that register only (10_state.md R31). -/
theorem State.reg8_setReg8 (s : State) (r x : Reg8) (v : Byte) :
    (s.setReg8 r v).reg8 x = if x = r then v else s.reg8 x := by
  cases r <;> cases x <;> rfl

@[simp] theorem State.reg8_setReg8_same (s : State) (r : Reg8) (v : Byte) : (s.setReg8 r v).reg8 r = v := by
  cases r <;> rfl

@[simp] theorem State.reg8_applyFlags (s : State) (u : FlagUpdate) (x : Reg8) : (s.applyFlags u).reg8 x = s.reg8 x := by
  cases x <;> rfl

theorem hiByte_wordOf (hi lo : Byte) : hiByte (wordOf hi lo) = hi := by
  apply BitVec.eq_of_getLsbD_eq
  intro i hlt
  simp only [hiByte, wordOf, BitVec.getLsbD_extractLsb', BitVec.getLsbD_append]
  simp [hlt]

theorem loByte_wordOf (hi lo : Byte) : loByte (wordOf hi lo) = lo := by
  apply BitVec.eq_of_getLsbD_eq
  intro i hlt
  simp only [loByte, wordOf, BitVec.getLsbD_extractLsb', BitVec.getLsbD_append]
  simp [hlt]

theorem wordOf_hiByte_loByte (v : Word) : wordOf (hiByte v) (loByte v) = v := by
  apply BitVec.eq_of_getLsbD_eq
  intro i hlt
  simp only [wordOf, hiByte, loByte, BitVec.getLsbD_append, BitVec.getLsbD_extractLsb']
  by_cases hi : i < 8
  · simp [hi]
  · have : i - 8 < 8 := by omega
    simp [hi, this, show 8 + (i - 8) = i by omega]

theorem wordOf_toNat (hi lo : Byte) : (wordOf hi lo).toNat = hi.toNat * 256 + lo.toNat := by
  simp only [wordOf, BitVec.toNat_append]
  rw [Nat.shiftLeft_eq, Nat.mul_comm, ← Nat.two_pow_add_eq_or_of_lt lo.isLt]

/-- A write of a pair changes both halves (R31). -/
theorem State.r16_setR16 (s : State) (p : R16) (v : Word) : (s.setR16 p v).r16 p = v := by
  cases p <;> simp [State.setR16, State.r16, State.bc, State.de, State.hl, wordOf_hiByte_loByte]

/-- Packing and unpacking the flags (R32, R33). -/
theorem Flags.unpack_pack (f : Flags) : Flags.unpack f.pack = f := by
  obtain ⟨z, n, h, c⟩ := f
  cases z <;> cases n <;> cases h <;> cases c <;> rfl

theorem Flags.pack_unpack (v : Byte) : (Flags.unpack v).pack = v &&& 0xF0#8 := by
  revert v
  decide

end Sys2Proof.Machine
end

