-- ==== Sys2Proof/Laws/Ops.lean ====
section
/-! SUPPORT. What the shared operations over time, the environment, the bus and the stack change and leave alone. -/

namespace Sys2Proof.Machine

/-! ### `applyAction` -/

@[simp] theorem State.applyAction_a (s : State) (x : EnvAction) : (s.applyAction x).a = s.a := by cases x <;> rfl
@[simp] theorem State.applyAction_b (s : State) (x : EnvAction) : (s.applyAction x).b = s.b := by cases x <;> rfl
@[simp] theorem State.applyAction_c (s : State) (x : EnvAction) : (s.applyAction x).c = s.c := by cases x <;> rfl
@[simp] theorem State.applyAction_d (s : State) (x : EnvAction) : (s.applyAction x).d = s.d := by cases x <;> rfl
@[simp] theorem State.applyAction_e (s : State) (x : EnvAction) : (s.applyAction x).e = s.e := by cases x <;> rfl
@[simp] theorem State.applyAction_h (s : State) (x : EnvAction) : (s.applyAction x).h = s.h := by cases x <;> rfl
@[simp] theorem State.applyAction_l (s : State) (x : EnvAction) : (s.applyAction x).l = s.l := by cases x <;> rfl
@[simp] theorem State.applyAction_flags (s : State) (x : EnvAction) : (s.applyAction x).flags = s.flags := by cases x <;> rfl
@[simp] theorem State.applyAction_sp (s : State) (x : EnvAction) : (s.applyAction x).sp = s.sp := by cases x <;> rfl
@[simp] theorem State.applyAction_pc (s : State) (x : EnvAction) : (s.applyAction x).pc = s.pc := by cases x <;> rfl
@[simp] theorem State.applyAction_ime (s : State) (x : EnvAction) : (s.applyAction x).ime = s.ime := by cases x <;> rfl
@[simp] theorem State.applyAction_imeNext (s : State) (x : EnvAction) : (s.applyAction x).imeNext = s.imeNext := by cases x <;> rfl
@[simp] theorem State.applyAction_halted (s : State) (x : EnvAction) : (s.applyAction x).halted = s.halted := by cases x <;> rfl
@[simp] theorem State.applyAction_irqEnable (s : State) (x : EnvAction) : (s.applyAction x).irqEnable = s.irqEnable := by cases x <;> rfl
@[simp] theorem State.applyAction_timestamp (s : State) (x : EnvAction) : (s.applyAction x).timestamp = s.timestamp := by cases x <;> rfl
@[simp] theorem State.applyAction_doubleSpeed (s : State) (x : EnvAction) : (s.applyAction x).doubleSpeed = s.doubleSpeed := by cases x <;> rfl
@[simp] theorem State.applyAction_fault (s : State) (x : EnvAction) : (s.applyAction x).fault = s.fault := by cases x <;> rfl
@[simp] theorem State.applyAction_haltBugPending (s : State) (x : EnvAction) : (s.applyAction x).haltBugPending = s.haltBugPending := by cases x <;> rfl
@[simp] theorem State.applyAction_elapsed (s : State) (x : EnvAction) : (s.applyAction x).elapsed = s.elapsed := by cases x <;> rfl
@[simp] theorem State.applyAction_mem (s : State) (x : EnvAction) : (s.applyAction x).mem = s.mem := by cases x <;> rfl
@[simp] theorem State.applyAction_params (s : State) (x : EnvAction) : (s.applyAction x).params = s.params := by cases x <;> rfl
@[simp] theorem State.applyAction_env (s : State) (x : EnvAction) : (s.applyAction x).env = s.env := by cases x <;> rfl
@[simp] theorem State.applyAction_draws (s : State) (x : EnvAction) : (s.applyAction x).draws = s.draws := by cases x <;> rfl
@[simp] theorem State.applyAction_opcodePc (s : State) (x : EnvAction) : (s.applyAction x).opcodePc = s.opcodePc := by cases x <;> rfl

/-! ### `applyActions` -/

@[simp] theorem State.applyActions_a (xs : List EnvAction) (s : State) : (State.applyActions xs s).a = s.a := by
  induction xs generalizing s with
  | nil => rfl
  | cons x xs ih => simp [State.applyActions, ih]
@[simp] theorem State.applyActions_b (xs : List EnvAction) (s : State) : (State.applyActions xs s).b = s.b := by
  induction xs generalizing s with
  | nil => rfl
  | cons x xs ih => simp [State.applyActions, ih]
@[simp] theorem State.applyActions_c (xs : List EnvAction) (s : State) : (State.applyActions xs s).c = s.c := by
  induction xs generalizing s with
  | nil => rfl
  | cons x xs ih => simp [State.applyActions, ih]
@[simp] theorem State.applyActions_d (xs : List EnvAction) (s : State) : (State.applyActions xs s).d = s.d := by
  induction xs generalizing s with
  | nil => rfl
  | cons x xs ih => simp [State.applyActions, ih]
@[simp] theorem State.applyActions_e (xs : List EnvAction) (s : State) : (State.applyActions xs s).e = s.e := by
  induction xs generalizing s with
  | nil => rfl
  | cons x xs ih => simp [State.applyActions, ih]
@[simp] theorem State.applyActions_h (xs : List EnvAction) (s : State) : (State.applyActions xs s).h = s.h := by
  induction xs generalizing s with
  | nil => rfl
  | cons x xs ih => simp [State.applyActions, ih]
@[simp] theorem State.applyActions_l (xs : List EnvAction) (s : State) : (State.applyActions xs s).l = s.l := by
  induction xs generalizing s with
  | nil => rfl
  | cons x xs ih => simp [State.applyActions, ih]
@[simp] theorem State.applyActions_flags (xs : List EnvAction) (s : State) : (State.applyActions xs s).flags = s.flags := by
  induction xs generalizing s with
  | nil => rfl
  | cons x xs ih => simp [State.applyActions, ih]
@[simp] theorem State.applyActions_sp (xs : List EnvAction) (s : State) : (State.applyActions xs s).sp = s.sp := by
  induction xs generalizing s with
  | nil => rfl
  | cons x xs ih => simp [State.applyActions, ih]
@[simp] theorem State.applyActions_pc (xs : List EnvAction) (s : State) : (State.applyActions xs s).pc = s.pc := by
  induction xs generalizing s with
  | nil => rfl
  | cons x xs ih => simp [State.applyActions, ih]
@[simp] theorem State.applyActions_ime (xs : List EnvAction) (s : State) : (State.applyActions xs s).ime = s.ime := by
  induction xs generalizing s with
  | nil => rfl
  | cons x xs ih => simp [State.applyActions, ih]
@[simp] theorem State.applyActions_imeNext (xs : List EnvAction) (s : State) : (State.applyActions xs s).imeNext = s.imeNext := by
  induction xs generalizing s with
  | nil => rfl
  | cons x xs ih => simp [State.applyActions, ih]
@[simp] theorem State.applyActions_halted (xs : List EnvAction) (s : State) : (State.applyActions xs s).halted = s.halted := by
  induction xs generalizing s with
  | nil => rfl
  | cons x xs ih => simp [State.applyActions, ih]
@[simp] theorem State.applyActions_irqEnable (xs : List EnvAction) (s : State) : (State.applyActions xs s).irqEnable = s.irqEnable := by
  induction xs generalizing s with
  | nil => rfl
  | cons x xs ih => simp [State.applyActions, ih]
@[simp] theorem State.applyActions_timestamp (xs : List EnvAction) (s : State) : (State.applyActions xs s).timestamp = s.timestamp := by
  induction xs generalizing s with
  | nil => rfl
  | cons x xs ih => simp [State.applyActions, ih]
@[simp] theorem State.applyActions_doubleSpeed (xs : List EnvAction) (s : State) : (State.applyActions xs s).doubleSpeed = s.doubleSpeed := by
  induction xs generalizing s with
  | nil => rfl
  | cons x xs ih => simp [State.applyActions, ih]
@[simp] theorem State.applyActions_fault (xs : List EnvAction) (s : State) : (State.applyActions xs s).fault = s.fault := by
  induction xs generalizing s with
  | nil => rfl
  | cons x xs ih => simp [State.applyActions, ih]
@[simp] theorem State.applyActions_haltBugPending (xs : List EnvAction) (s : State) : (State.applyActions xs s).haltBugPending = s.haltBugPending := by
  induction xs generalizing s with
  | nil => rfl
  | cons x xs ih => simp [State.applyActions, ih]
@[simp] theorem State.applyActions_elapsed (xs : List EnvAction) (s : State) : (State.applyActions xs s).elapsed = s.elapsed := by
  induction xs generalizing s with
  | nil => rfl
  | cons x xs ih => simp [State.applyActions, ih]
@[simp] theorem State.applyActions_mem (xs : List EnvAction) (s : State) : (State.applyActions xs s).mem = s.mem := by
  induction xs generalizing s with
  | nil => rfl
  | cons x xs ih => simp [State.applyActions, ih]
@[simp] theorem State.applyActions_params (xs : List EnvAction) (s : State) : (State.applyActions xs s).params = s.params := by
  induction xs generalizing s with
  | nil => rfl
  | cons x xs ih => simp [State.applyActions, ih]
@[simp] theorem State.applyActions_env (xs : List EnvAction) (s : State) : (State.applyActions xs s).env = s.env := by
  induction xs generalizing s with
  | nil => rfl
  | cons x xs ih => simp [State.applyActions, ih]
@[simp] theorem State.applyActions_draws (xs : List EnvAction) (s : State) : (State.applyActions xs s).draws = s.draws := by
  induction xs generalizing s with
  | nil => rfl
  | cons x xs ih => simp [State.applyActions, ih]
@[simp] theorem State.applyActions_opcodePc (xs : List EnvAction) (s : State) : (State.applyActions xs s).opcodePc = s.opcodePc := by
  induction xs generalizing s with
  | nil => rfl
  | cons x xs ih => simp [State.applyActions, ih]

/-! ### `environment` -/

@[simp] theorem State.environment_a (s : State) : (s.environment).a = s.a := by
  unfold State.environment; split <;> simp
@[simp] theorem State.environment_b (s : State) : (s.environment).b = s.b := by
  unfold State.environment; split <;> simp
@[simp] theorem State.environment_c (s : State) : (s.environment).c = s.c := by
  unfold State.environment; split <;> simp
@[simp] theorem State.environment_d (s : State) : (s.environment).d = s.d := by
  unfold State.environment; split <;> simp
@[simp] theorem State.environment_e (s : State) : (s.environment).e = s.e := by
  unfold State.environment; split <;> simp
@[simp] theorem State.environment_h (s : State) : (s.environment).h = s.h := by
  unfold State.environment; split <;> simp
@[simp] theorem State.environment_l (s : State) : (s.environment).l = s.l := by
  unfold State.environment; split <;> simp
@[simp] theorem State.environment_flags (s : State) : (s.environment).flags = s.flags := by
  unfold State.environment; split <;> simp
@[simp] theorem State.environment_sp (s : State) : (s.environment).sp = s.sp := by
  unfold State.environment; split <;> simp
@[simp] theorem State.environment_pc (s : State) : (s.environment).pc = s.pc := by
  unfold State.environment; split <;> simp
@[simp] theorem State.environment_ime (s : State) : (s.environment).ime = s.ime := by
  unfold State.environment; split <;> simp
@[simp] theorem State.environment_imeNext (s : State) : (s.environment).imeNext = s.imeNext := by
  unfold State.environment; split <;> simp
@[simp] theorem State.environment_halted (s : State) : (s.environment).halted = s.halted := by
  unfold State.environment; split <;> simp
@[simp] theorem State.environment_irqEnable (s : State) : (s.environment).irqEnable = s.irqEnable := by
  unfold State.environment; split <;> simp
@[simp] theorem State.environment_timestamp (s : State) : (s.environment).timestamp = s.timestamp := by
  unfold State.environment; split <;> simp
@[simp] theorem State.environment_doubleSpeed (s : State) : (s.environment).doubleSpeed = s.doubleSpeed := by
  unfold State.environment; split <;> simp
@[simp] theorem State.environment_fault (s : State) : (s.environment).fault = s.fault := by
  unfold State.environment; split <;> simp
@[simp] theorem State.environment_haltBugPending (s : State) : (s.environment).haltBugPending = s.haltBugPending := by
  unfold State.environment; split <;> simp
@[simp] theorem State.environment_elapsed (s : State) : (s.environment).elapsed = s.elapsed := by
  unfold State.environment; split <;> simp
@[simp] theorem State.environment_mem (s : State) : (s.environment).mem = s.mem := by
  unfold State.environment; split <;> simp
@[simp] theorem State.environment_params (s : State) : (s.environment).params = s.params := by
  unfold State.environment; split <;> simp
@[simp] theorem State.environment_draws (s : State) : (s.environment).draws = s.draws := by
  unfold State.environment; split <;> simp
@[simp] theorem State.environment_opcodePc (s : State) : (s.environment).opcodePc = s.opcodePc := by
  unfold State.environment; split <;> simp

@[simp] theorem State.environment_env (s : State) : s.environment.env = s.env.drop 1 := by
  unfold State.environment; split <;> simp_all

/-! ### `tick` -/

@[simp] theorem State.tick_a (s : State) (n : Nat) : (s.tick n).a = s.a := by simp [State.tick]
@[simp] theorem State.tick_b (s : State) (n : Nat) : (s.tick n).b = s.b := by simp [State.tick]
@[simp] theorem State.tick_c (s : State) (n : Nat) : (s.tick n).c = s.c := by simp [State.tick]
@[simp] theorem State.tick_d (s : State) (n : Nat) : (s.tick n).d = s.d := by simp [State.tick]
@[simp] theorem State.tick_e (s : State) (n : Nat) : (s.tick n).e = s.e := by simp [State.tick]
@[simp] theorem State.tick_h (s : State) (n : Nat) : (s.tick n).h = s.h := by simp [State.tick]
@[simp] theorem State.tick_l (s : State) (n : Nat) : (s.tick n).l = s.l := by simp [State.tick]
@[simp] theorem State.tick_flags (s : State) (n : Nat) : (s.tick n).flags = s.flags := by simp [State.tick]
@[simp] theorem State.tick_sp (s : State) (n : Nat) : (s.tick n).sp = s.sp := by simp [State.tick]
@[simp] theorem State.tick_pc (s : State) (n : Nat) : (s.tick n).pc = s.pc := by simp [State.tick]
@[simp] theorem State.tick_ime (s : State) (n : Nat) : (s.tick n).ime = s.ime := by simp [State.tick]
@[simp] theorem State.tick_imeNext (s : State) (n : Nat) : (s.tick n).imeNext = s.imeNext := by simp [State.tick]
@[simp] theorem State.tick_halted (s : State) (n : Nat) : (s.tick n).halted = s.halted := by simp [State.tick]
@[simp] theorem State.tick_irqEnable (s : State) (n : Nat) : (s.tick n).irqEnable = s.irqEnable := by simp [State.tick]
@[simp] theorem State.tick_timestamp (s : State) (n : Nat) : (s.tick n).timestamp = s.timestamp + scaledTicks s.doubleSpeed n := by simp [State.tick]
@[simp] theorem State.tick_doubleSpeed (s : State) (n : Nat) : (s.tick n).doubleSpeed = s.doubleSpeed := by simp [State.tick]
@[simp] theorem State.tick_fault (s : State) (n : Nat) : (s.tick n).fault = s.fault := by simp [State.tick]
@[simp] theorem State.tick_haltBugPending (s : State) (n : Nat) : (s.tick n).haltBugPending = s.haltBugPending := by simp [State.tick]
@[simp] theorem State.tick_elapsed (s : State) (n : Nat) : (s.tick n).elapsed = s.elapsed + scaledTicks s.doubleSpeed n := by simp [State.tick]
@[simp] theorem State.tick_mem (s : State) (n : Nat) : (s.tick n).mem = s.mem := by simp [State.tick]
@[simp] theorem State.tick_params (s : State) (n : Nat) : (s.tick n).params = s.params := by simp [State.tick]
@[simp] theorem State.tick_env (s : State) (n : Nat) : (s.tick n).env = s.env.drop 1 := by simp [State.tick]
@[simp] theorem State.tick_draws (s : State) (n : Nat) : (s.tick n).draws = s.draws := by simp [State.tick]
@[simp] theorem State.tick_opcodePc (s : State) (n : Nat) : (s.tick n).opcodePc = s.opcodePc := by simp [State.tick]

/-! ### `internal` -/

@[simp] theorem State.internal_a (s : State) : (s.internal).a = s.a := by simp [State.internal]
@[simp] theorem State.internal_b (s : State) : (s.internal).b = s.b := by simp [State.internal]
@[simp] theorem State.internal_c (s : State) : (s.internal).c = s.c := by simp [State.internal]
@[simp] theorem State.internal_d (s : State) : (s.internal).d = s.d := by simp [State.internal]
@[simp] theorem State.internal_e (s : State) : (s.internal).e = s.e := by simp [State.internal]
@[simp] theorem State.internal_h (s : State) : (s.internal).h = s.h := by simp [State.internal]
@[simp] theorem State.internal_l (s : State) : (s.internal).l = s.l := by simp [State.internal]
@[simp] theorem State.internal_flags (s : State) : (s.internal).flags = s.flags := by simp [State.internal]
@[simp] theorem State.internal_sp (s : State) : (s.internal).sp = s.sp := by simp [State.internal]
@[simp] theorem State.internal_pc (s : State) : (s.internal).pc = s.pc := by simp [State.internal]
@[simp] theorem State.internal_ime (s : State) : (s.internal).ime = s.ime := by simp [State.internal]
@[simp] theorem State.internal_imeNext (s : State) : (s.internal).imeNext = s.imeNext := by simp [State.internal]
@[simp] theorem State.internal_halted (s : State) : (s.internal).halted = s.halted := by simp [State.internal]
@[simp] theorem State.internal_irqEnable (s : State) : (s.internal).irqEnable = s.irqEnable := by simp [State.internal]
@[simp] theorem State.internal_timestamp (s : State) : (s.internal).timestamp = s.timestamp + scaledTicks s.doubleSpeed 4 := by simp [State.internal]
@[simp] theorem State.internal_doubleSpeed (s : State) : (s.internal).doubleSpeed = s.doubleSpeed := by simp [State.internal]
@[simp] theorem State.internal_fault (s : State) : (s.internal).fault = s.fault := by simp [State.internal]
@[simp] theorem State.internal_haltBugPending (s : State) : (s.internal).haltBugPending = s.haltBugPending := by simp [State.internal]
@[simp] theorem State.internal_elapsed (s : State) : (s.internal).elapsed = s.elapsed + scaledTicks s.doubleSpeed 4 := by simp [State.internal]
@[simp] theorem State.internal_mem (s : State) : (s.internal).mem = s.mem := by simp [State.internal]
@[simp] theorem State.internal_params (s : State) : (s.internal).params = s.params := by simp [State.internal]
@[simp] theorem State.internal_env (s : State) : (s.internal).env = s.env.drop 1 := by simp [State.internal]
@[simp] theorem State.internal_draws (s : State) : (s.internal).draws = s.draws := by simp [State.internal]
@[simp] theorem State.internal_opcodePc (s : State) : (s.internal).opcodePc = s.opcodePc := by simp [State.internal]

/-! ### `memRead_state` -/

@[simp] theorem State.memRead_state_a (s : State) (x : Word) : ((s.memRead x).2).a = s.a := by
  unfold State.memRead; split_ifs <;> simp
@[simp] theorem State.memRead_state_b (s : State) (x : Word) : ((s.memRead x).2).b = s.b := by
  unfold State.memRead; split_ifs <;> simp
@[simp] theorem State.memRead_state_c (s : State) (x : Word) : ((s.memRead x).2).c = s.c := by
  unfold State.memRead; split_ifs <;> simp
@[simp] theorem State.memRead_state_d (s : State) (x : Word) : ((s.memRead x).2).d = s.d := by
  unfold State.memRead; split_ifs <;> simp
@[simp] theorem State.memRead_state_e (s : State) (x : Word) : ((s.memRead x).2).e = s.e := by
  unfold State.memRead; split_ifs <;> simp
@[simp] theorem State.memRead_state_h (s : State) (x : Word) : ((s.memRead x).2).h = s.h := by
  unfold State.memRead; split_ifs <;> simp
@[simp] theorem State.memRead_state_l (s : State) (x : Word) : ((s.memRead x).2).l = s.l := by
  unfold State.memRead; split_ifs <;> simp
@[simp] theorem State.memRead_state_flags (s : State) (x : Word) : ((s.memRead x).2).flags = s.flags := by
  unfold State.memRead; split_ifs <;> simp
@[simp] theorem State.memRead_state_sp (s : State) (x : Word) : ((s.memRead x).2).sp = s.sp := by
  unfold State.memRead; split_ifs <;> simp
@[simp] theorem State.memRead_state_pc (s : State) (x : Word) : ((s.memRead x).2).pc = s.pc := by
  unfold State.memRead; split_ifs <;> simp
@[simp] theorem State.memRead_state_ime (s : State) (x : Word) : ((s.memRead x).2).ime = s.ime := by
  unfold State.memRead; split_ifs <;> simp
@[simp] theorem State.memRead_state_imeNext (s : State) (x : Word) : ((s.memRead x).2).imeNext = s.imeNext := by
  unfold State.memRead; split_ifs <;> simp
@[simp] theorem State.memRead_state_halted (s : State) (x : Word) : ((s.memRead x).2).halted = s.halted := by
  unfold State.memRead; split_ifs <;> simp
@[simp] theorem State.memRead_state_irqEnable (s : State) (x : Word) : ((s.memRead x).2).irqEnable = s.irqEnable := by
  unfold State.memRead; split_ifs <;> simp
@[simp] theorem State.memRead_state_timestamp (s : State) (x : Word) : ((s.memRead x).2).timestamp = s.timestamp + scaledTicks s.doubleSpeed 4 := by
  unfold State.memRead; split_ifs <;> simp
@[simp] theorem State.memRead_state_doubleSpeed (s : State) (x : Word) : ((s.memRead x).2).doubleSpeed = s.doubleSpeed := by
  unfold State.memRead; split_ifs <;> simp
@[simp] theorem State.memRead_state_fault (s : State) (x : Word) : ((s.memRead x).2).fault = s.fault := by
  unfold State.memRead; split_ifs <;> simp
@[simp] theorem State.memRead_state_haltBugPending (s : State) (x : Word) : ((s.memRead x).2).haltBugPending = s.haltBugPending := by
  unfold State.memRead; split_ifs <;> simp
@[simp] theorem State.memRead_state_elapsed (s : State) (x : Word) : ((s.memRead x).2).elapsed = s.elapsed + scaledTicks s.doubleSpeed 4 := by
  unfold State.memRead; split_ifs <;> simp
@[simp] theorem State.memRead_state_mem (s : State) (x : Word) : ((s.memRead x).2).mem = s.mem := by
  unfold State.memRead; split_ifs <;> simp
@[simp] theorem State.memRead_state_params (s : State) (x : Word) : ((s.memRead x).2).params = s.params := by
  unfold State.memRead; split_ifs <;> simp
@[simp] theorem State.memRead_state_env (s : State) (x : Word) : ((s.memRead x).2).env = s.env.drop 1 := by
  unfold State.memRead; split_ifs <;> simp
@[simp] theorem State.memRead_state_opcodePc (s : State) (x : Word) : ((s.memRead x).2).opcodePc = s.opcodePc := by
  unfold State.memRead; split_ifs <;> simp

/-! ### `memWrite` -/

@[simp] theorem State.memWrite_a (s : State) (x : Word) (v : Byte) : (s.memWrite x v).a = s.a := by
  unfold State.memWrite; split_ifs <;> simp
@[simp] theorem State.memWrite_b (s : State) (x : Word) (v : Byte) : (s.memWrite x v).b = s.b := by
  unfold State.memWrite; split_ifs <;> simp
@[simp] theorem State.memWrite_c (s : State) (x : Word) (v : Byte) : (s.memWrite x v).c = s.c := by
  unfold State.memWrite; split_ifs <;> simp
@[simp] theorem State.memWrite_d (s : State) (x : Word) (v : Byte) : (s.memWrite x v).d = s.d := by
  unfold State.memWrite; split_ifs <;> simp
@[simp] theorem State.memWrite_e (s : State) (x : Word) (v : Byte) : (s.memWrite x v).e = s.e := by
  unfold State.memWrite; split_ifs <;> simp
@[simp] theorem State.memWrite_h (s : State) (x : Word) (v : Byte) : (s.memWrite x v).h = s.h := by
  unfold State.memWrite; split_ifs <;> simp
@[simp] theorem State.memWrite_l (s : State) (x : Word) (v : Byte) : (s.memWrite x v).l = s.l := by
  unfold State.memWrite; split_ifs <;> simp
@[simp] theorem State.memWrite_flags (s : State) (x : Word) (v : Byte) : (s.memWrite x v).flags = s.flags := by
  unfold State.memWrite; split_ifs <;> simp
@[simp] theorem State.memWrite_sp (s : State) (x : Word) (v : Byte) : (s.memWrite x v).sp = s.sp := by
  unfold State.memWrite; split_ifs <;> simp
@[simp] theorem State.memWrite_pc (s : State) (x : Word) (v : Byte) : (s.memWrite x v).pc = s.pc := by
  unfold State.memWrite; split_ifs <;> simp
@[simp] theorem State.memWrite_ime (s : State) (x : Word) (v : Byte) : (s.memWrite x v).ime = s.ime := by
  unfold State.memWrite; split_ifs <;> simp
@[simp] theorem State.memWrite_imeNext (s : State) (x : Word) (v : Byte) : (s.memWrite x v).imeNext = s.imeNext := by
  unfold State.memWrite; split_ifs <;> simp
@[simp] theorem State.memWrite_halted (s : State) (x : Word) (v : Byte) : (s.memWrite x v).halted = s.halted := by
  unfold State.memWrite; split_ifs <;> simp
@[simp] theorem State.memWrite_timestamp (s : State) (x : Word) (v : Byte) : (s.memWrite x v).timestamp = s.timestamp + scaledTicks s.doubleSpeed 4 := by
  unfold State.memWrite; split_ifs <;> simp
@[simp] theorem State.memWrite_doubleSpeed (s : State) (x : Word) (v : Byte) : (s.memWrite x v).doubleSpeed = s.doubleSpeed := by
  unfold State.memWrite; split_ifs <;> simp
@[simp] theorem State.memWrite_fault (s : State) (x : Word) (v : Byte) : (s.memWrite x v).fault = s.fault := by
  unfold State.memWrite; split_ifs <;> simp
@[simp] theorem State.memWrite_haltBugPending (s : State) (x : Word) (v : Byte) : (s.memWrite x v).haltBugPending = s.haltBugPending := by
  unfold State.memWrite; split_ifs <;> simp
@[simp] theorem State.memWrite_elapsed (s : State) (x : Word) (v : Byte) : (s.memWrite x v).elapsed = s.elapsed + scaledTicks s.doubleSpeed 4 := by
  unfold State.memWrite; split_ifs <;> simp
@[simp] theorem State.memWrite_params (s : State) (x : Word) (v : Byte) : (s.memWrite x v).params = s.params := by
  unfold State.memWrite; split_ifs <;> simp
@[simp] theorem State.memWrite_env (s : State) (x : Word) (v : Byte) : (s.memWrite x v).env = s.env.drop 1 := by
  unfold State.memWrite; split_ifs <;> simp
@[simp] theorem State.memWrite_draws (s : State) (x : Word) (v : Byte) : (s.memWrite x v).draws = s.draws := by
  unfold State.memWrite; split_ifs <;> simp
@[simp] theorem State.memWrite_opcodePc (s : State) (x : Word) (v : Byte) : (s.memWrite x v).opcodePc = s.opcodePc := by
  unfold State.memWrite; split_ifs <;> simp

/-! ### `fetch8_state` -/

@[simp] theorem State.fetch8_state_a (s : State) : (s.fetch8.2).a = s.a := by simp [State.fetch8]
@[simp] theorem State.fetch8_state_b (s : State) : (s.fetch8.2).b = s.b := by simp [State.fetch8]
@[simp] theorem State.fetch8_state_c (s : State) : (s.fetch8.2).c = s.c := by simp [State.fetch8]
@[simp] theorem State.fetch8_state_d (s : State) : (s.fetch8.2).d = s.d := by simp [State.fetch8]
@[simp] theorem State.fetch8_state_e (s : State) : (s.fetch8.2).e = s.e := by simp [State.fetch8]
@[simp] theorem State.fetch8_state_h (s : State) : (s.fetch8.2).h = s.h := by simp [State.fetch8]
@[simp] theorem State.fetch8_state_l (s : State) : (s.fetch8.2).l = s.l := by simp [State.fetch8]
@[simp] theorem State.fetch8_state_flags (s : State) : (s.fetch8.2).flags = s.flags := by simp [State.fetch8]
@[simp] theorem State.fetch8_state_sp (s : State) : (s.fetch8.2).sp = s.sp := by simp [State.fetch8]
@[simp] theorem State.fetch8_state_pc (s : State) : (s.fetch8.2).pc = s.pc + 1 := by simp [State.fetch8]
@[simp] theorem State.fetch8_state_ime (s : State) : (s.fetch8.2).ime = s.ime := by simp [State.fetch8]
@[simp] theorem State.fetch8_state_imeNext (s : State) : (s.fetch8.2).imeNext = s.imeNext := by simp [State.fetch8]
@[simp] theorem State.fetch8_state_halted (s : State) : (s.fetch8.2).halted = s.halted := by simp [State.fetch8]
@[simp] theorem State.fetch8_state_irqEnable (s : State) : (s.fetch8.2).irqEnable = s.irqEnable := by simp [State.fetch8]
@[simp] theorem State.fetch8_state_timestamp (s : State) : (s.fetch8.2).timestamp = s.timestamp + scaledTicks s.doubleSpeed 4 := by simp [State.fetch8]
@[simp] theorem State.fetch8_state_doubleSpeed (s : State) : (s.fetch8.2).doubleSpeed = s.doubleSpeed := by simp [State.fetch8]
@[simp] theorem State.fetch8_state_fault (s : State) : (s.fetch8.2).fault = s.fault := by simp [State.fetch8]
@[simp] theorem State.fetch8_state_haltBugPending (s : State) : (s.fetch8.2).haltBugPending = s.haltBugPending := by simp [State.fetch8]
@[simp] theorem State.fetch8_state_elapsed (s : State) : (s.fetch8.2).elapsed = s.elapsed + scaledTicks s.doubleSpeed 4 := by simp [State.fetch8]
@[simp] theorem State.fetch8_state_mem (s : State) : (s.fetch8.2).mem = s.mem := by simp [State.fetch8]
@[simp] theorem State.fetch8_state_params (s : State) : (s.fetch8.2).params = s.params := by simp [State.fetch8]
@[simp] theorem State.fetch8_state_env (s : State) : (s.fetch8.2).env = s.env.drop 1 := by simp [State.fetch8]
@[simp] theorem State.fetch8_state_opcodePc (s : State) : (s.fetch8.2).opcodePc = s.opcodePc := by simp [State.fetch8]

/-! ### `fetch16_state` -/

@[simp] theorem State.fetch16_state_a (s : State) : (s.fetch16.2).a = s.a := by simp [State.fetch16]
@[simp] theorem State.fetch16_state_b (s : State) : (s.fetch16.2).b = s.b := by simp [State.fetch16]
@[simp] theorem State.fetch16_state_c (s : State) : (s.fetch16.2).c = s.c := by simp [State.fetch16]
@[simp] theorem State.fetch16_state_d (s : State) : (s.fetch16.2).d = s.d := by simp [State.fetch16]
@[simp] theorem State.fetch16_state_e (s : State) : (s.fetch16.2).e = s.e := by simp [State.fetch16]
@[simp] theorem State.fetch16_state_h (s : State) : (s.fetch16.2).h = s.h := by simp [State.fetch16]
@[simp] theorem State.fetch16_state_l (s : State) : (s.fetch16.2).l = s.l := by simp [State.fetch16]
@[simp] theorem State.fetch16_state_flags (s : State) : (s.fetch16.2).flags = s.flags := by simp [State.fetch16]
@[simp] theorem State.fetch16_state_sp (s : State) : (s.fetch16.2).sp = s.sp := by simp [State.fetch16]
@[simp] theorem State.fetch16_state_pc (s : State) : (s.fetch16.2).pc = s.pc + 2 := by simp [State.fetch16]
@[simp] theorem State.fetch16_state_ime (s : State) : (s.fetch16.2).ime = s.ime := by simp [State.fetch16]
@[simp] theorem State.fetch16_state_imeNext (s : State) : (s.fetch16.2).imeNext = s.imeNext := by simp [State.fetch16]
@[simp] theorem State.fetch16_state_halted (s : State) : (s.fetch16.2).halted = s.halted := by simp [State.fetch16]
@[simp] theorem State.fetch16_state_irqEnable (s : State) : (s.fetch16.2).irqEnable = s.irqEnable := by simp [State.fetch16]
@[simp] theorem State.fetch16_state_timestamp (s : State) : (s.fetch16.2).timestamp = s.timestamp + scaledTicks s.doubleSpeed 4 + scaledTicks s.doubleSpeed 4 := by simp [State.fetch16]
@[simp] theorem State.fetch16_state_doubleSpeed (s : State) : (s.fetch16.2).doubleSpeed = s.doubleSpeed := by simp [State.fetch16]
@[simp] theorem State.fetch16_state_fault (s : State) : (s.fetch16.2).fault = s.fault := by simp [State.fetch16]
@[simp] theorem State.fetch16_state_haltBugPending (s : State) : (s.fetch16.2).haltBugPending = s.haltBugPending := by simp [State.fetch16]
@[simp] theorem State.fetch16_state_elapsed (s : State) : (s.fetch16.2).elapsed = s.elapsed + scaledTicks s.doubleSpeed 4 + scaledTicks s.doubleSpeed 4 := by simp [State.fetch16]
@[simp] theorem State.fetch16_state_mem (s : State) : (s.fetch16.2).mem = s.mem := by simp [State.fetch16]
@[simp] theorem State.fetch16_state_params (s : State) : (s.fetch16.2).params = s.params := by simp [State.fetch16]
@[simp] theorem State.fetch16_state_env (s : State) : (s.fetch16.2).env = s.env.drop 2 := by simp [State.fetch16]
@[simp] theorem State.fetch16_state_opcodePc (s : State) : (s.fetch16.2).opcodePc = s.opcodePc := by simp [State.fetch16]

/-! ### `push16` -/

@[simp] theorem State.push16_a (s : State) (v : Word) : (s.push16 v).a = s.a := by simp [State.push16]
@[simp] theorem State.push16_b (s : State) (v : Word) : (s.push16 v).b = s.b := by simp [State.push16]
@[simp] theorem State.push16_c (s : State) (v : Word) : (s.push16 v).c = s.c := by simp [State.push16]
@[simp] theorem State.push16_d (s : State) (v : Word) : (s.push16 v).d = s.d := by simp [State.push16]
@[simp] theorem State.push16_e (s : State) (v : Word) : (s.push16 v).e = s.e := by simp [State.push16]
@[simp] theorem State.push16_h (s : State) (v : Word) : (s.push16 v).h = s.h := by simp [State.push16]
@[simp] theorem State.push16_l (s : State) (v : Word) : (s.push16 v).l = s.l := by simp [State.push16]
@[simp] theorem State.push16_flags (s : State) (v : Word) : (s.push16 v).flags = s.flags := by simp [State.push16]
@[simp] theorem State.push16_sp (s : State) (v : Word) : (s.push16 v).sp = s.sp - 2 := by simp [State.push16]
@[simp] theorem State.push16_pc (s : State) (v : Word) : (s.push16 v).pc = s.pc := by simp [State.push16]
@[simp] theorem State.push16_ime (s : State) (v : Word) : (s.push16 v).ime = s.ime := by simp [State.push16]
@[simp] theorem State.push16_imeNext (s : State) (v : Word) : (s.push16 v).imeNext = s.imeNext := by simp [State.push16]
@[simp] theorem State.push16_halted (s : State) (v : Word) : (s.push16 v).halted = s.halted := by simp [State.push16]
@[simp] theorem State.push16_timestamp (s : State) (v : Word) : (s.push16 v).timestamp = s.timestamp + scaledTicks s.doubleSpeed 4 + scaledTicks s.doubleSpeed 4 := by simp [State.push16]
@[simp] theorem State.push16_doubleSpeed (s : State) (v : Word) : (s.push16 v).doubleSpeed = s.doubleSpeed := by simp [State.push16]
@[simp] theorem State.push16_fault (s : State) (v : Word) : (s.push16 v).fault = s.fault := by simp [State.push16]
@[simp] theorem State.push16_haltBugPending (s : State) (v : Word) : (s.push16 v).haltBugPending = s.haltBugPending := by simp [State.push16]
@[simp] theorem State.push16_elapsed (s : State) (v : Word) : (s.push16 v).elapsed = s.elapsed + scaledTicks s.doubleSpeed 4 + scaledTicks s.doubleSpeed 4 := by simp [State.push16]
@[simp] theorem State.push16_params (s : State) (v : Word) : (s.push16 v).params = s.params := by simp [State.push16]
@[simp] theorem State.push16_env (s : State) (v : Word) : (s.push16 v).env = s.env.drop 2 := by simp [State.push16]
@[simp] theorem State.push16_draws (s : State) (v : Word) : (s.push16 v).draws = s.draws := by simp [State.push16]
@[simp] theorem State.push16_opcodePc (s : State) (v : Word) : (s.push16 v).opcodePc = s.opcodePc := by simp [State.push16]

/-! ### `pop16_state` -/

@[simp] theorem State.pop16_state_a (s : State) : (s.pop16.2).a = s.a := by simp [State.pop16]
@[simp] theorem State.pop16_state_b (s : State) : (s.pop16.2).b = s.b := by simp [State.pop16]
@[simp] theorem State.pop16_state_c (s : State) : (s.pop16.2).c = s.c := by simp [State.pop16]
@[simp] theorem State.pop16_state_d (s : State) : (s.pop16.2).d = s.d := by simp [State.pop16]
@[simp] theorem State.pop16_state_e (s : State) : (s.pop16.2).e = s.e := by simp [State.pop16]
@[simp] theorem State.pop16_state_h (s : State) : (s.pop16.2).h = s.h := by simp [State.pop16]
@[simp] theorem State.pop16_state_l (s : State) : (s.pop16.2).l = s.l := by simp [State.pop16]
@[simp] theorem State.pop16_state_flags (s : State) : (s.pop16.2).flags = s.flags := by simp [State.pop16]
@[simp] theorem State.pop16_state_sp (s : State) : (s.pop16.2).sp = s.sp + 2 := by simp [State.pop16]
@[simp] theorem State.pop16_state_pc (s : State) : (s.pop16.2).pc = s.pc := by simp [State.pop16]
@[simp] theorem State.pop16_state_ime (s : State) : (s.pop16.2).ime = s.ime := by simp [State.pop16]
@[simp] theorem State.pop16_state_imeNext (s : State) : (s.pop16.2).imeNext = s.imeNext := by simp [State.pop16]
@[simp] theorem State.pop16_state_halted (s : State) : (s.pop16.2).halted = s.halted := by simp [State.pop16]
@[simp] theorem State.pop16_state_irqEnable (s : State) : (s.pop16.2).irqEnable = s.irqEnable := by simp [State.pop16]
@[simp] theorem State.pop16_state_timestamp (s : State) : (s.pop16.2).timestamp = s.timestamp + scaledTicks s.doubleSpeed 4 + scaledTicks s.doubleSpeed 4 := by simp [State.pop16]
@[simp] theorem State.pop16_state_doubleSpeed (s : State) : (s.pop16.2).doubleSpeed = s.doubleSpeed := by simp [State.pop16]
@[simp] theorem State.pop16_state_fault (s : State) : (s.pop16.2).fault = s.fault := by simp [State.pop16]
@[simp] theorem State.pop16_state_haltBugPending (s : State) : (s.pop16.2).haltBugPending = s.haltBugPending := by simp [State.pop16]
@[simp] theorem State.pop16_state_elapsed (s : State) : (s.pop16.2).elapsed = s.elapsed + scaledTicks s.doubleSpeed 4 + scaledTicks s.doubleSpeed 4 := by simp [State.pop16]
@[simp] theorem State.pop16_state_mem (s : State) : (s.pop16.2).mem = s.mem := by simp [State.pop16]
@[simp] theorem State.pop16_state_params (s : State) : (s.pop16.2).params = s.params := by simp [State.pop16]
@[simp] theorem State.pop16_state_env (s : State) : (s.pop16.2).env = s.env.drop 2 := by simp [State.pop16]
@[simp] theorem State.pop16_state_opcodePc (s : State) : (s.pop16.2).opcodePc = s.opcodePc := by simp [State.pop16]

/-! ### `fetchOpcode_state` -/

@[simp] theorem State.fetchOpcode_state_a (s : State) : (s.fetchOpcode.2).a = s.a := by
  unfold State.fetchOpcode; simp only []; split_ifs <;> simp
@[simp] theorem State.fetchOpcode_state_b (s : State) : (s.fetchOpcode.2).b = s.b := by
  unfold State.fetchOpcode; simp only []; split_ifs <;> simp
@[simp] theorem State.fetchOpcode_state_c (s : State) : (s.fetchOpcode.2).c = s.c := by
  unfold State.fetchOpcode; simp only []; split_ifs <;> simp
@[simp] theorem State.fetchOpcode_state_d (s : State) : (s.fetchOpcode.2).d = s.d := by
  unfold State.fetchOpcode; simp only []; split_ifs <;> simp
@[simp] theorem State.fetchOpcode_state_e (s : State) : (s.fetchOpcode.2).e = s.e := by
  unfold State.fetchOpcode; simp only []; split_ifs <;> simp
@[simp] theorem State.fetchOpcode_state_h (s : State) : (s.fetchOpcode.2).h = s.h := by
  unfold State.fetchOpcode; simp only []; split_ifs <;> simp
@[simp] theorem State.fetchOpcode_state_l (s : State) : (s.fetchOpcode.2).l = s.l := by
  unfold State.fetchOpcode; simp only []; split_ifs <;> simp
@[simp] theorem State.fetchOpcode_state_flags (s : State) : (s.fetchOpcode.2).flags = s.flags := by
  unfold State.fetchOpcode; simp only []; split_ifs <;> simp
@[simp] theorem State.fetchOpcode_state_sp (s : State) : (s.fetchOpcode.2).sp = s.sp := by
  unfold State.fetchOpcode; simp only []; split_ifs <;> simp
@[simp] theorem State.fetchOpcode_state_ime (s : State) : (s.fetchOpcode.2).ime = s.ime := by
  unfold State.fetchOpcode; simp only []; split_ifs <;> simp
@[simp] theorem State.fetchOpcode_state_imeNext (s : State) : (s.fetchOpcode.2).imeNext = s.imeNext := by
  unfold State.fetchOpcode; simp only []; split_ifs <;> simp
@[simp] theorem State.fetchOpcode_state_halted (s : State) : (s.fetchOpcode.2).halted = s.halted := by
  unfold State.fetchOpcode; simp only []; split_ifs <;> simp
@[simp] theorem State.fetchOpcode_state_irqEnable (s : State) : (s.fetchOpcode.2).irqEnable = s.irqEnable := by
  unfold State.fetchOpcode; simp only []; split_ifs <;> simp
@[simp] theorem State.fetchOpcode_state_timestamp (s : State) : (s.fetchOpcode.2).timestamp = s.timestamp + scaledTicks s.doubleSpeed 4 := by
  unfold State.fetchOpcode; simp only []; split_ifs <;> simp
@[simp] theorem State.fetchOpcode_state_doubleSpeed (s : State) : (s.fetchOpcode.2).doubleSpeed = s.doubleSpeed := by
  unfold State.fetchOpcode; simp only []; split_ifs <;> simp
@[simp] theorem State.fetchOpcode_state_fault (s : State) : (s.fetchOpcode.2).fault = s.fault := by
  unfold State.fetchOpcode; simp only []; split_ifs <;> simp
@[simp] theorem State.fetchOpcode_state_elapsed (s : State) : (s.fetchOpcode.2).elapsed = s.elapsed + scaledTicks s.doubleSpeed 4 := by
  unfold State.fetchOpcode; simp only []; split_ifs <;> simp
@[simp] theorem State.fetchOpcode_state_mem (s : State) : (s.fetchOpcode.2).mem = s.mem := by
  unfold State.fetchOpcode; simp only []; split_ifs <;> simp
@[simp] theorem State.fetchOpcode_state_params (s : State) : (s.fetchOpcode.2).params = s.params := by
  unfold State.fetchOpcode; simp only []; split_ifs <;> simp
@[simp] theorem State.fetchOpcode_state_env (s : State) : (s.fetchOpcode.2).env = s.env.drop 1 := by
  unfold State.fetchOpcode; simp only []; split_ifs <;> simp
@[simp] theorem State.fetchOpcode_state_opcodePc (s : State) : (s.fetchOpcode.2).opcodePc = s.pc := by
  unfold State.fetchOpcode; simp only []; split_ifs <;> simp

/-! ### `returnFromCall` -/

@[simp] theorem State.returnFromCall_a (s : State) : (s.returnFromCall).a = s.a := by simp [State.returnFromCall]
@[simp] theorem State.returnFromCall_b (s : State) : (s.returnFromCall).b = s.b := by simp [State.returnFromCall]
@[simp] theorem State.returnFromCall_c (s : State) : (s.returnFromCall).c = s.c := by simp [State.returnFromCall]
@[simp] theorem State.returnFromCall_d (s : State) : (s.returnFromCall).d = s.d := by simp [State.returnFromCall]
@[simp] theorem State.returnFromCall_e (s : State) : (s.returnFromCall).e = s.e := by simp [State.returnFromCall]
@[simp] theorem State.returnFromCall_h (s : State) : (s.returnFromCall).h = s.h := by simp [State.returnFromCall]
@[simp] theorem State.returnFromCall_l (s : State) : (s.returnFromCall).l = s.l := by simp [State.returnFromCall]
@[simp] theorem State.returnFromCall_flags (s : State) : (s.returnFromCall).flags = s.flags := by simp [State.returnFromCall]
@[simp] theorem State.returnFromCall_sp (s : State) : (s.returnFromCall).sp = s.sp + 2 := by simp [State.returnFromCall]
@[simp] theorem State.returnFromCall_pc (s : State) : (s.returnFromCall).pc = s.pop16.1 := by simp [State.returnFromCall]
@[simp] theorem State.returnFromCall_ime (s : State) : (s.returnFromCall).ime = s.ime := by simp [State.returnFromCall]
@[simp] theorem State.returnFromCall_imeNext (s : State) : (s.returnFromCall).imeNext = s.imeNext := by simp [State.returnFromCall]
@[simp] theorem State.returnFromCall_halted (s : State) : (s.returnFromCall).halted = s.halted := by simp [State.returnFromCall]
@[simp] theorem State.returnFromCall_irqEnable (s : State) : (s.returnFromCall).irqEnable = s.irqEnable := by simp [State.returnFromCall]
@[simp] theorem State.returnFromCall_timestamp (s : State) : (s.returnFromCall).timestamp = s.timestamp + scaledTicks s.doubleSpeed 4 + scaledTicks s.doubleSpeed 4 + scaledTicks s.doubleSpeed 4 := by simp [State.returnFromCall]
@[simp] theorem State.returnFromCall_doubleSpeed (s : State) : (s.returnFromCall).doubleSpeed = s.doubleSpeed := by simp [State.returnFromCall]
@[simp] theorem State.returnFromCall_fault (s : State) : (s.returnFromCall).fault = s.fault := by simp [State.returnFromCall]
@[simp] theorem State.returnFromCall_haltBugPending (s : State) : (s.returnFromCall).haltBugPending = s.haltBugPending := by simp [State.returnFromCall]
@[simp] theorem State.returnFromCall_elapsed (s : State) : (s.returnFromCall).elapsed = s.elapsed + scaledTicks s.doubleSpeed 4 + scaledTicks s.doubleSpeed 4 + scaledTicks s.doubleSpeed 4 := by simp [State.returnFromCall]
@[simp] theorem State.returnFromCall_mem (s : State) : (s.returnFromCall).mem = s.mem := by simp [State.returnFromCall]
@[simp] theorem State.returnFromCall_params (s : State) : (s.returnFromCall).params = s.params := by simp [State.returnFromCall]
@[simp] theorem State.returnFromCall_env (s : State) : (s.returnFromCall).env = s.env.drop 3 := by simp [State.returnFromCall]
@[simp] theorem State.returnFromCall_opcodePc (s : State) : (s.returnFromCall).opcodePc = s.opcodePc := by simp [State.returnFromCall]

/-! ### Time -/

@[simp] theorem scaledTicks_zero (d : Bool) : scaledTicks d 0 = 0 := by cases d <;> rfl

/-- Ticks of 4 cycles add up in both speed modes (70_reset_and_hazards.md R481, R482). -/
theorem scaledTicks_add (d : Bool) {m n : Nat} (hm : m % 4 = 0) (hn : n % 4 = 0) :
    scaledTicks d m + scaledTicks d n = scaledTicks d (m + n) := by
  cases d <;> simp only [scaledTicks, Nat.shiftRight_eq_div_pow] <;> simp
  omega

theorem scaledTicks_le (d : Bool) (n : Nat) : scaledTicks d n ≤ n := by
  cases d <;> simp [scaledTicks, Nat.shiftRight_eq_div_pow, Nat.div_le_self]

/-! ### The environment's turns -/

theorem and_or_self_left (x y : BitVec 5) : x &&& (x ||| y) = x := by
  ext i hi
  simp
  tauto

theorem and_eq_left_trans {x y z : BitVec 5} (h1 : x &&& y = x) (h2 : y &&& z = y) : x &&& z = x := by
  rw [← h1, BitVec.and_assoc, h2]

/-- `irq_flags` only gains bits by actions of the environment (60_exceptions.md R410, R450). -/
theorem State.applyActions_irqFlags_kept (xs : List EnvAction) (s : State) :
    s.irqFlags &&& (State.applyActions xs s).irqFlags = s.irqFlags := by
  induction xs generalizing s with
  | nil => simp [State.applyActions]
  | cons x xs ih =>
    refine and_eq_left_trans ?_ (ih (s.applyAction x))
    cases x with
    | raiseInterrupt i => exact and_or_self_left _ _
    | armSpeedSwitch => exact BitVec.and_self

theorem State.applyActions_speedSwitchPending_kept (xs : List EnvAction) {s : State} (h : s.speedSwitchPending = true) :
    (State.applyActions xs s).speedSwitchPending = true := by
  induction xs generalizing s with
  | nil => exact h
  | cons x xs ih => exact ih (by cases x <;> simp [State.applyAction, h])

/-- `t` follows `s` by `n` turns of the environment, and nothing else wrote what the environment may write. -/
structure Turns (n : Nat) (s t : State) : Prop where
  env : t.env = s.env.drop n
  irqFlagsKept : s.irqFlags &&& t.irqFlags = s.irqFlags
  irqFlagsQuiet : Quiet n s.env → t.irqFlags = s.irqFlags
  speedSwitchKept : s.speedSwitchPending = true → t.speedSwitchPending = true
  speedSwitchQuiet : Quiet n s.env → t.speedSwitchPending = s.speedSwitchPending

theorem Quiet.left {m n : Nat} {env : List EnvEvent} (h : Quiet (m + n) env) : Quiet m env := fun ev hev =>
  h ev (List.take_subset_take_left env (Nat.le_add_right m n) hev)

theorem Quiet.right {m n : Nat} {env : List EnvEvent} (h : Quiet (m + n) env) : Quiet n (env.drop m) := fun ev hev =>
  h ev (by rw [List.take_add]; exact List.mem_append_right _ hev)

theorem Turns.trans {m n : Nat} {s t u : State} (h1 : Turns m s t) (h2 : Turns n t u) : Turns (m + n) s u where
  env := by rw [h2.env, h1.env, List.drop_drop]
  irqFlagsKept := and_eq_left_trans h1.irqFlagsKept h2.irqFlagsKept
  irqFlagsQuiet := fun q => (h2.irqFlagsQuiet (h1.env ▸ q.right)).trans (h1.irqFlagsQuiet q.left)
  speedSwitchKept := fun h => h2.speedSwitchKept (h1.speedSwitchKept h)
  speedSwitchQuiet := fun q => (h2.speedSwitchQuiet (h1.env ▸ q.right)).trans (h1.speedSwitchQuiet q.left)

theorem Turns.refl (s : State) : Turns 0 s s where
  env := rfl
  irqFlagsKept := BitVec.and_self
  irqFlagsQuiet := fun _ => rfl
  speedSwitchKept := id
  speedSwitchQuiet := fun _ => rfl

/-- Turns look at three fields only. -/
theorem Turns.congr {n : Nat} {s s' t t' : State} (h : Turns n s t)
    (hs : s'.env = s.env ∧ s'.irqFlags = s.irqFlags ∧ s'.speedSwitchPending = s.speedSwitchPending)
    (ht : t'.env = t.env ∧ t'.irqFlags = t.irqFlags ∧ t'.speedSwitchPending = t.speedSwitchPending) : Turns n s' t' := by
  obtain ⟨h1, h2, h3⟩ := hs
  obtain ⟨g1, g2, g3⟩ := ht
  exact ⟨by rw [g1, h1, h.env], by rw [g2, h2, h.irqFlagsKept], by rw [g2, h1, h2]; exact h.irqFlagsQuiet,
    by rw [h3, g3]; exact h.speedSwitchKept, by rw [h1, h3, g3]; exact h.speedSwitchQuiet⟩

theorem Turns.from {n : Nat} {s s' t : State} (h : Turns n s t)
    (hs : s'.env = s.env ∧ s'.irqFlags = s.irqFlags ∧ s'.speedSwitchPending = s.speedSwitchPending) : Turns n s' t :=
  h.congr hs ⟨rfl, rfl, rfl⟩

theorem State.turns_environment (s : State) : Turns 1 s s.environment := by
  unfold State.environment
  cases hs : s.env with
  | nil => exact ⟨by simp [hs], BitVec.and_self, fun _ => rfl, id, fun _ => rfl⟩
  | cons ev later =>
    have h := State.applyActions_irqFlags_kept ev.actions (s.setEnv later)
    have h' := State.applyActions_speedSwitchPending_kept ev.actions (s := s.setEnv later)
    refine ⟨by simp [hs], h, fun q => ?_, h', fun q => ?_⟩ <;>
    · have hq : ev.actions = [] := q ev (by simp [hs])
      simp [hq, State.applyActions]

/-- Everything a tick does to what the environment may write. -/
theorem State.turns_tick (s : State) (n : Nat) : Turns 1 s (s.tick n) :=
  (State.turns_environment (s.spend (scaledTicks s.doubleSpeed n))).from ⟨rfl, rfl, rfl⟩

theorem State.turns_memRead (s : State) (x : Word) : Turns 1 s (s.memRead x).2 := by
  unfold State.memRead
  have h := State.turns_tick s.drawn 4
  split_ifs
  · exact h.from ⟨rfl, rfl, rfl⟩
  · exact h.from ⟨rfl, rfl, rfl⟩
  · exact State.turns_tick s 4

theorem State.turns_memWrite (s : State) {x : Word} (v : Byte) (hx : x ≠ ifAddr) : Turns 1 s (s.memWrite x v) := by
  unfold State.memWrite
  rw [if_neg hx]
  have h1 := State.turns_tick (s.setIrqEnable (v.extractLsb' 0 5)) 4
  have h2 := State.turns_tick (s.setMem (Memory.write s.mem x.toNat v)) 4
  split_ifs
  · exact h1.from ⟨rfl, rfl, rfl⟩
  · exact h2.from ⟨rfl, rfl, rfl⟩

/-! ### Memory and IE under the operations -/

theorem ifAddr_ne_ieAddr : ifAddr ≠ ieAddr := by decide

theorem State.byteAt_congr {s t : State} (h : t.mem = s.mem) (a : Word) : t.byteAt a = s.byteAt a := by
  unfold State.byteAt; rw [h]

theorem State.memWrite_mem (s : State) (x : Word) (v : Byte) :
    (s.memWrite x v).mem = if x = ifAddr ∨ x = ieAddr then s.mem else Memory.write s.mem x.toNat v := by
  unfold State.memWrite
  by_cases hf : x = ifAddr
  · simp [hf]
  · by_cases he : x = ieAddr <;> simp [hf, he, ifAddr_ne_ieAddr.symm]

/-- A write to the bus is what the next read finds; a write to IF or IE leaves the bus alone (20_memory.md R72). -/
theorem State.byteAt_memWrite (s : State) (x a : Word) (v : Byte) :
    (s.memWrite x v).byteAt a = if a = x ∧ x ≠ ifAddr ∧ x ≠ ieAddr then v else s.byteAt a := by
  unfold State.byteAt
  rw [State.memWrite_mem]
  split_ifs with h h' h'
  · tauto
  · rfl
  · rw [Memory.read_write, if_pos (by rw [h'.1])]
  · have : a.toNat ≠ x.toNat := fun hne => h' ⟨BitVec.eq_of_toNat_eq hne, not_or.mp h⟩
    rw [Memory.read_write, if_neg this]

theorem State.memWrite_irqEnable (s : State) (x : Word) (v : Byte) :
    (s.memWrite x v).irqEnable = if x = ieAddr then v.extractLsb' 0 5 else s.irqEnable := by
  unfold State.memWrite
  by_cases hf : x = ifAddr
  · simp [hf, ifAddr_ne_ieAddr]
  · by_cases he : x = ieAddr <;> simp [hf, he, ifAddr_ne_ieAddr.symm]

/-- A write of IF replaces the five request bits; the turn after it may OR more in (10_state.md R50). -/
theorem State.memWrite_ifAddr (s : State) (v : Byte) :
    Turns 1 (s.setIrqFlags (v.extractLsb' 0 5)) (s.memWrite ifAddr v) := by
  unfold State.memWrite
  rw [if_pos rfl]
  exact State.turns_tick _ 4

theorem State.wf_memWrite {s : State} (x : Word) (v : Byte) (h : s.mem.wf = true) : (s.memWrite x v).mem.wf = true := by
  rw [State.memWrite_mem]
  split_ifs with hx
  · exact h
  · exact Memory.wf_write v (busOwns_word (not_or.mp hx).1 (not_or.mp hx).2) h

/-- What a read answers on a bus that is plain RAM (20_memory.md R70, R90). -/
theorem State.memRead_plain {s : State} {x : Word} (he : s.env = []) (hf : x ≠ ifAddr) (hi : x ≠ ieAddr) :
    (s.memRead x).1 = s.byteAt x := by
  simp [State.memRead, hf, hi, State.busAnswer, he]


end Sys2Proof.Machine
end

