-- ==== Sys2Proof/Laws/Frame.lean ====
section
/-! SUPPORT. Footprints compose: what each shared operation may change, once, so that an instruction's frame is the composition of
the frames of the operations it is built from. -/

namespace Sys2Proof.Machine

/-- The footprint of one piece after another. -/
def Footprint.seq (f g : Footprint) : Footprint where
  regs := f.regs ++ g.regs
  flags := f.flags || g.flags
  sp := f.sp || g.sp
  pc := f.pc || g.pc
  ime := f.ime || g.ime
  stores := f.stores ++ g.stores
  cycles := f.cycles + g.cycles

@[simp] theorem Footprint.seq_cycles (f g : Footprint) : (f.seq g).cycles = f.cycles + g.cycles := rfl

/-- `f` allows no more than `g`, in the same time. -/
structure Footprint.Le (f g : Footprint) : Prop where
  regs : ∀ r ∈ f.regs, r ∈ g.regs
  flags : f.flags = true → g.flags = true
  sp : f.sp = true → g.sp = true
  pc : f.pc = true → g.pc = true
  ime : f.ime = true → g.ime = true
  stores : ∀ a ∈ f.stores, a ∈ g.stores
  cycles : f.cycles = g.cycles

theorem Within.turns {f : Footprint} {s t : State} (h : Within f s t) (hs : ifAddr ∉ f.stores) :
    Turns (f.cycles / 4) s t :=
  ⟨h.env, h.irqFlagsKept hs, h.irqFlagsQuiet hs, h.speedSwitchKept, h.speedSwitchQuiet⟩

/-- One piece after another. -/
theorem Within.seq {f g : Footprint} {s t u : State} (h1 : Within f s t) (h2 : Within g t u) (hf : f.cycles % 4 = 0)
    (hg : g.cycles % 4 = 0) : Within (f.seq g) s u := by
  have hdiv : (f.seq g).cycles / 4 = f.cycles / 4 + g.cycles / 4 := by simp only [Footprint.seq]; omega
  have hnot : ∀ {a : Word}, a ∉ (f.seq g).stores → a ∉ f.stores ∧ a ∉ g.stores := fun h => by
    simpa [Footprint.seq] using h
  have hoff : ∀ {x y : Bool}, (x || y) = false → x = false ∧ y = false := fun h => by simpa using h
  exact
    { regs := fun r hr => by
        have hr' : r ∉ f.regs ∧ r ∉ g.regs := by simpa [Footprint.seq] using hr
        rw [h2.regs r hr'.2, h1.regs r hr'.1]
      flags := fun h => (h2.flags (hoff h).2).trans (h1.flags (hoff h).1)
      sp := fun h => (h2.sp (hoff h).2).trans (h1.sp (hoff h).1)
      pc := fun h => (h2.pc (hoff h).2).trans (h1.pc (hoff h).1)
      ime := fun h =>
        ⟨(h2.ime (hoff h).2).1.trans (h1.ime (hoff h).1).1, (h2.ime (hoff h).2).2.trans (h1.ime (hoff h).1).2⟩
      memory := fun a ha => (h2.memory a (hnot ha).2).trans (h1.memory a (hnot ha).1)
      irqEnable := fun ha => (h2.irqEnable (hnot ha).2).trans (h1.irqEnable (hnot ha).1)
      irqFlagsKept := fun ha => ((h1.turns (hnot ha).1).trans (h2.turns (hnot ha).2)).irqFlagsKept
      irqFlagsQuiet := fun ha q => by
        rw [hdiv] at q
        exact ((h1.turns (hnot ha).1).trans (h2.turns (hnot ha).2)).irqFlagsQuiet q
      speedSwitchKept := fun h => h2.speedSwitchKept (h1.speedSwitchKept h)
      speedSwitchQuiet := fun q => by
        rw [hdiv] at q
        exact (h2.speedSwitchQuiet (h1.env ▸ q.right)).trans (h1.speedSwitchQuiet q.left)
      halted := h2.halted.trans h1.halted
      haltBugPending := h2.haltBugPending.trans h1.haltBugPending
      doubleSpeed := h2.doubleSpeed.trans h1.doubleSpeed
      fault := h2.fault.trans h1.fault
      params := h2.params.trans h1.params
      opcodePc := h2.opcodePc.trans h1.opcodePc
      timestamp := by
        rw [h2.timestamp, h1.timestamp, h1.doubleSpeed, Nat.add_assoc, scaledTicks_add _ hf hg]; rfl
      elapsed := by rw [h2.elapsed, h1.elapsed, h1.doubleSpeed, Nat.add_assoc, scaledTicks_add _ hf hg]; rfl
      env := by rw [h2.env, h1.env, List.drop_drop, hdiv] }

/-- A footprint may be widened, but not in time. -/
theorem Within.mono {f g : Footprint} {s t : State} (h : Within f s t) (hle : f.Le g) : Within g s t where
  regs := fun r hr => h.regs r fun h' => hr (hle.regs r h')
  flags := fun hg => h.flags (by cases hf : f.flags with | false => rfl | true => simp [hle.flags hf] at hg)
  sp := fun hg => h.sp (by cases hf : f.sp with | false => rfl | true => simp [hle.sp hf] at hg)
  pc := fun hg => h.pc (by cases hf : f.pc with | false => rfl | true => simp [hle.pc hf] at hg)
  ime := fun hg => h.ime (by cases hf : f.ime with | false => rfl | true => simp [hle.ime hf] at hg)
  memory := fun a ha => h.memory a fun h' => ha (hle.stores a h')
  irqEnable := fun ha => h.irqEnable fun h' => ha (hle.stores _ h')
  irqFlagsKept := fun ha => h.irqFlagsKept fun h' => ha (hle.stores _ h')
  irqFlagsQuiet := fun ha q => h.irqFlagsQuiet (fun h' => ha (hle.stores _ h')) (hle.cycles ▸ q)
  speedSwitchKept := h.speedSwitchKept
  speedSwitchQuiet := fun q => h.speedSwitchQuiet (hle.cycles ▸ q)
  halted := h.halted
  haltBugPending := h.haltBugPending
  doubleSpeed := h.doubleSpeed
  fault := h.fault
  params := h.params
  opcodePc := h.opcodePc
  timestamp := hle.cycles ▸ h.timestamp
  elapsed := hle.cycles ▸ h.elapsed
  env := hle.cycles ▸ h.env

/-! ### The pieces -/

/-- A change of registers, flags, SP, PC and `ime` that spends no time. -/
theorem Within.instant {f : Footprint} {s t : State} (hc : f.cycles = 0) (hr : ∀ r, r ∉ f.regs → t.reg8 r = s.reg8 r)
    (hfl : f.flags = false → t.flags = s.flags) (hsp : f.sp = false → t.sp = s.sp) (hpc : f.pc = false → t.pc = s.pc)
    (hime : f.ime = false → t.ime = s.ime ∧ t.imeNext = s.imeNext) (hm : t.mem = s.mem)
    (h1 : t.irqEnable = s.irqEnable ∧ t.irqFlags = s.irqFlags ∧ t.speedSwitchPending = s.speedSwitchPending)
    (h2 : t.halted = s.halted ∧ t.haltBugPending = s.haltBugPending ∧ t.doubleSpeed = s.doubleSpeed)
    (h3 : t.fault = s.fault ∧ t.params = s.params ∧ t.env = s.env ∧ t.opcodePc = s.opcodePc)
    (h4 : t.timestamp = s.timestamp ∧ t.elapsed = s.elapsed) : Within f s t where
  regs := hr
  flags := hfl
  sp := hsp
  pc := hpc
  ime := hime
  memory := fun x _ => State.byteAt_congr hm x
  irqEnable := fun _ => h1.1
  irqFlagsKept := fun _ => by rw [h1.2.1, BitVec.and_self]
  irqFlagsQuiet := fun _ _ => h1.2.1
  speedSwitchKept := fun h => by rw [h1.2.2, h]
  speedSwitchQuiet := fun _ => h1.2.2
  halted := h2.1
  haltBugPending := h2.2.1
  doubleSpeed := h2.2.2
  fault := h3.1
  params := h3.2.1
  opcodePc := h3.2.2.2
  timestamp := by rw [hc, h4.1]; simp
  elapsed := by rw [hc, h4.2]; simp
  env := by rw [hc, h3.2.2.1]; simp

theorem within_refl (s : State) : Within {} s s := by
  apply Within.instant <;> simp

theorem within_setReg8 (s : State) (r : Reg8) (v : Byte) : Within { regs := [r] } s (s.setReg8 r v) := by
  apply Within.instant <;> simp +contextual [State.reg8_setReg8]

theorem within_applyFlags (s : State) (u : FlagUpdate) : Within { flags := true } s (s.applyFlags u) := by
  apply Within.instant <;> simp

theorem within_setA (s : State) (v : Byte) : Within { regs := [.a] } s (s.setReg8 .a v) :=
  within_setReg8 s .a v

theorem within_setSp (s : State) (v : Word) : Within { sp := true } s (s.setSp v) := by
  apply Within.instant <;> first | (intro r _; cases r <;> rfl) | simp

theorem within_setPc (s : State) (v : Word) : Within { pc := true } s (s.setPc v) := by
  apply Within.instant <;> first | (intro r _; cases r <;> rfl) | simp

theorem within_setIme (s : State) (v w : Bool) : Within { ime := true } s (s.setIme v w) := by
  apply Within.instant <;> first | (intro r _; cases r <;> rfl) | simp

theorem within_setR16 (s : State) (p : R16) (v : Word) :
    Within { regs := p.halves, sp := decide (p = .sp) } s (s.setR16 p v) := by
  cases p <;> apply Within.instant <;>
    first
    | (intro r hr; cases r <;> first | rfl | exact absurd (by decide) hr)
    | (intro _; rfl)
    | simp

theorem within_setR16stk (s : State) (p : R16stk) (v : Word) :
    Within { regs := p.halves, flags := decide (p = .af) } s (s.setR16stk p v) := by
  cases p <;> apply Within.instant <;>
    first
    | (intro r hr; cases r <;> first | rfl | exact absurd (by decide) hr)
    | (intro _; rfl)
    | simp

theorem within_r16memPost (s : State) (m : R16mem) : Within { regs := m.halves } s (s.r16memPost m) := by
  cases m <;> apply Within.instant <;>
    first
    | (intro r hr; cases r <;> first | rfl | exact absurd (by decide) hr)
    | (intro _; rfl)
    | simp

/-- A piece of one tick that writes memory or IE at most. -/
theorem Within.oneTick {f : Footprint} {s t : State} (hc : f.cycles = 4) (hturn : ifAddr ∉ f.stores → Turns 1 s t)
    (hspeed : (s.speedSwitchPending = true → t.speedSwitchPending = true) ∧
      (Quiet 1 s.env → t.speedSwitchPending = s.speedSwitchPending))
    (hregs : ∀ r, t.reg8 r = s.reg8 r) (hm : ∀ a, a ∉ f.stores → t.byteAt a = s.byteAt a)
    (he : ieAddr ∉ f.stores → t.irqEnable = s.irqEnable) (h1 : t.flags = s.flags ∧ t.sp = s.sp ∧ t.pc = s.pc)
    (h2 : t.ime = s.ime ∧ t.imeNext = s.imeNext ∧ t.halted = s.halted ∧ t.haltBugPending = s.haltBugPending)
    (h3 : t.doubleSpeed = s.doubleSpeed ∧ t.fault = s.fault ∧ t.params = s.params ∧ t.opcodePc = s.opcodePc)
    (h4 : t.timestamp = s.timestamp + scaledTicks s.doubleSpeed 4 ∧ t.elapsed = s.elapsed + scaledTicks s.doubleSpeed 4)
    (h5 : t.env = s.env.drop 1) : Within f s t where
  regs := fun r _ => hregs r
  flags := fun _ => h1.1
  sp := fun _ => h1.2.1
  pc := fun _ => h1.2.2
  ime := fun _ => ⟨h2.1, h2.2.1⟩
  memory := hm
  irqEnable := he
  irqFlagsKept := fun h => (hturn h).irqFlagsKept
  irqFlagsQuiet := fun h => by rw [hc]; exact (hturn h).irqFlagsQuiet
  speedSwitchKept := hspeed.1
  speedSwitchQuiet := by rw [hc]; exact hspeed.2
  halted := h2.2.2.1
  haltBugPending := h2.2.2.2
  doubleSpeed := h3.1
  fault := h3.2.1
  params := h3.2.2.1
  opcodePc := h3.2.2.2
  timestamp := by rw [hc]; exact h4.1
  elapsed := by rw [hc]; exact h4.2
  env := by rw [hc]; exact h5

theorem within_internal (s : State) : Within { cycles := 4 } s s.internal := by
  have h := State.turns_tick s 4
  apply Within.oneTick rfl (fun _ => h) ⟨h.speedSwitchKept, h.speedSwitchQuiet⟩ <;>
    first | (intro x _; exact State.byteAt_congr (by simp) x) | (intro r; cases r <;> simp [State.reg8]) | simp

theorem within_memRead (s : State) (x : Word) : Within { cycles := 4 } s (s.memRead x).2 := by
  have h := State.turns_memRead s x
  apply Within.oneTick rfl (fun _ => h) ⟨h.speedSwitchKept, h.speedSwitchQuiet⟩ <;>
    first | (intro x _; exact State.byteAt_congr (by simp) x) | (intro r; cases r <;> simp [State.reg8]) | simp

theorem within_memWrite (s : State) (x : Word) (v : Byte) : Within { stores := [x], cycles := 4 } s (s.memWrite x v) := by
  have hspeed : (s.speedSwitchPending = true → (s.memWrite x v).speedSwitchPending = true) ∧
      (Quiet 1 s.env → (s.memWrite x v).speedSwitchPending = s.speedSwitchPending) := by
    by_cases hx : x = ifAddr
    · subst hx
      have h := State.memWrite_ifAddr s v
      exact ⟨h.speedSwitchKept, h.speedSwitchQuiet⟩
    · have h := State.turns_memWrite s v hx
      exact ⟨h.speedSwitchKept, h.speedSwitchQuiet⟩
  apply Within.oneTick rfl (fun h => State.turns_memWrite s v (by simpa [eq_comm] using h)) hspeed
  · intro r; cases r <;> simp [State.reg8]
  · intro a ha
    rw [State.byteAt_memWrite, if_neg]
    exact fun h => ha (by simp [h.1])
  · intro h
    rw [State.memWrite_irqEnable, if_neg]
    exact fun h' => h (by simp [h'])
  all_goals simp

/-- What a store leaves, right after it (20_memory.md R72; 10_state.md R50). -/
theorem stored_memWrite (s : State) (x : Word) (v : Byte) : Stored x v 1 s (s.memWrite x v) where
  bus := fun hf hi => by rw [State.byteAt_memWrite, if_pos ⟨rfl, hf, hi⟩]
  enable := fun h => by rw [State.memWrite_irqEnable, if_pos h]
  request := fun h => by subst h; exact (State.memWrite_ifAddr s v).irqFlagsKept
  requestQuiet := fun h q => by subst h; exact (State.memWrite_ifAddr s v).irqFlagsQuiet q

/-- What was stored stays through pieces that store elsewhere. -/
theorem Stored.seq {x : Word} {v : Byte} {n : Nat} {f : Footprint} {s t u : State} (h : Stored x v n s t)
    (ht : t.env = s.env.drop n) (hw : Within f t u) (hx : x ∉ f.stores) : Stored x v (n + f.cycles / 4) s u where
  bus := fun hf hi => by rw [hw.memory x hx, h.bus hf hi]
  enable := fun he => by rw [hw.irqEnable (he ▸ hx), h.enable he]
  request := fun hf => and_eq_left_trans (h.request hf) (hw.irqFlagsKept (hf ▸ hx))
  requestQuiet := fun hf q => by
    rw [hw.irqFlagsQuiet (hf ▸ hx) (ht ▸ q.right), h.requestQuiet hf q.left]

/-- What is stored after pieces that spend turns. -/
theorem Stored.after {x : Word} {v : Byte} {n m : Nat} {s t u : State} (h : Stored x v n t u)
    (ht : t.env = s.env.drop m) : Stored x v (m + n) s u where
  bus := h.bus
  enable := h.enable
  request := h.request
  requestQuiet := fun hf q => h.requestQuiet hf (ht ▸ q.right)

/-! ### The shared operations -/

theorem State.push16_eq (s : State) (v : Word) : s.push16 v =
    (((s.setSp (s.sp - 1)).memWrite (s.sp - 1) (hiByte v)).setSp (s.sp - 2)).memWrite (s.sp - 2) (loByte v) := by
  simp [State.push16]

theorem State.pop16_state_eq (s : State) :
    s.pop16.2 = (((s.memRead s.sp).2.setSp (s.sp + 1)).memRead (s.sp + 1)).2.setSp (s.sp + 2) := by
  simp [State.pop16]

theorem within_push16 (s : State) (v : Word) :
    Within { sp := true, stores := [s.sp - 1, s.sp - 2], cycles := 8 } s (s.push16 v) := by
  have h1 := within_setSp s (s.sp - 1)
  have h2 := within_memWrite (s.setSp (s.sp - 1)) (s.sp - 1) (hiByte v)
  have h3 := within_setSp ((s.setSp (s.sp - 1)).memWrite (s.sp - 1) (hiByte v)) (s.sp - 2)
  have h4 := within_memWrite (((s.setSp (s.sp - 1)).memWrite (s.sp - 1) (hiByte v)).setSp (s.sp - 2)) (s.sp - 2) (loByte v)
  have h := ((h1.seq h2 (by simp) (by simp)).seq h3 (by simp) (by simp)).seq h4 (by simp) (by simp)
  rw [State.push16_eq]
  exact h.mono (by constructor <;> simp [Footprint.seq])

theorem within_pop16 (s : State) : Within { sp := true, cycles := 8 } s s.pop16.2 := by
  have h1 := within_memRead s s.sp
  have h2 := within_setSp (s.memRead s.sp).2 (s.sp + 1)
  have h3 := within_memRead ((s.memRead s.sp).2.setSp (s.sp + 1)) (s.sp + 1)
  have h := ((h1.seq h2 (by simp) (by simp)).seq h3 (by simp) (by simp)).seq (within_setSp _ (s.sp + 2)) (by simp) (by simp)
  rw [State.pop16_state_eq]
  exact h.mono (by constructor <;> simp [Footprint.seq])

theorem within_returnFromCall (s : State) : Within { sp := true, pc := true, cycles := 12 } s s.returnFromCall :=
  (((within_pop16 s).seq (within_internal s.pop16.2) rfl rfl).seq (within_setPc _ s.pop16.1) rfl rfl).mono
    (by constructor <;> simp [Footprint.seq])

theorem within_readOperand8 (s : State) (o : Operand8) : Within { cycles := o.cycles } s (s.readOperand8 o).2 := by
  cases o with
  | reg r => exact within_refl s
  | atHl => exact within_memRead s s.hl

theorem within_writeOperand8 (s : State) (o : Operand8) (v : Byte) :
    Within { regs := o.regs, stores := s.operandStores o, cycles := o.cycles } s (s.writeOperand8 o v) := by
  cases o with
  | reg r => exact within_setReg8 s r v
  | atHl => exact within_memWrite s s.hl v

@[simp] theorem State.memRead_state_hl (s : State) (x : Word) : (s.memRead x).2.hl = s.hl := by
  simp [State.hl]

theorem within_modifyOperand8 (s : State) (o : Operand8) (f : Byte → Flags → Byte × FlagUpdate) :
    Within { regs := o.regs, flags := true, stores := s.operandStores o, cycles := o.cycles + o.cycles } s
      (s.modifyOperand8 o f) := by
  have h := (((within_readOperand8 s o).seq (within_writeOperand8 _ o (f (s.readOperand8 o).1 s.flags).1)
    (by cases o <;> simp [Operand8.cycles]) (by cases o <;> simp [Operand8.cycles])).seq
    (within_applyFlags _ (f (s.readOperand8 o).1 s.flags).2) (by cases o <;> simp [Operand8.cycles]) (by simp))
  refine h.mono ?_
  cases o <;> constructor <;> simp [Footprint.seq, Operand8.regs, State.operandStores, Operand8.cycles, State.readOperand8]

theorem within_aluA (s : State) (op : AluOp) (v : Byte) : Within { regs := [.a], flags := true } s (s.aluA op v) :=
  ((within_setA s ((alu8 op s.a v s.flags.c).1.getD s.a)).seq (within_applyFlags _ (alu8 op s.a v s.flags.c).2) rfl rfl).mono
    (by constructor <;> simp [Footprint.seq])

end Sys2Proof.Machine
end

