-- ==== Sys2Proof/Laws/Fetch.lean ====
section
/-! SUPPORT. What a fetch does: the instruction the answered bytes decode to, and a fetch from a plain RAM bus. -/

namespace Sys2Proof.Machine

/-- Two states are equal when their fields are. -/
theorem State.ext_fields {s t : State} (h1 : s.a = t.a) (h2 : s.b = t.b) (h3 : s.c = t.c) (h4 : s.d = t.d) (h5 : s.e = t.e)
    (h6 : s.h = t.h) (h7 : s.l = t.l) (h8 : s.flags = t.flags) (h9 : s.sp = t.sp) (h10 : s.pc = t.pc)
    (h11 : s.ime = t.ime) (h12 : s.imeNext = t.imeNext) (h13 : s.halted = t.halted) (h14 : s.irqEnable = t.irqEnable)
    (h15 : s.irqFlags = t.irqFlags) (h16 : s.timestamp = t.timestamp) (h17 : s.doubleSpeed = t.doubleSpeed)
    (h18 : s.speedSwitchPending = t.speedSwitchPending) (h19 : s.fault = t.fault)
    (h20 : s.haltBugPending = t.haltBugPending) (h21 : s.elapsed = t.elapsed) (h22 : s.mem = t.mem)
    (h23 : s.params = t.params) (h24 : s.env = t.env) (h25 : s.draws = t.draws)
    (h26 : s.opcodePc = t.opcodePc) : s = t := by
  cases s
  cases t
  simp_all

/-- Everything the opcode fetch does, beyond its bus read (60_exceptions.md R444; 10_state.md R54, R59). -/
theorem State.fetchOpcode_eq (s : State) :
    s.fetchOpcode =
      ((s.memRead s.pc).1,
        { (s.memRead s.pc).2 with
          pc := if s.params.haltBug && s.haltBugPending then s.pc else s.pc + 1
          haltBugPending := s.haltBugPending && !s.params.haltBug
          opcodePc := s.pc }) := by
  have h1 := State.memRead_state_params s s.pc
  have h2 := State.memRead_state_haltBugPending s s.pc
  have h3 := State.memRead_state_pc s s.pc
  unfold State.fetchOpcode
  generalize s.memRead s.pc = r at *
  obtain ⟨v, t⟩ := r
  cases t
  cases hp : s.params.haltBug <;> cases hb : s.haltBugPending <;>
    simp_all [State.setOpcodePc, State.setPc, State.setHaltBugPending]

/-- The fetched instruction is the one the answered bytes decode to, and the bytes it reads are the bytes fetched. -/
theorem State.fetchInstr_eq (s : State) (i : Instr) (rest : List Byte) (h : decode s.answeredBytes = .instr i rest) :
    s.fetchInstr = (i, s.afterFetch (bytesRead i)) := by
  unfold State.answeredBytes at h
  unfold State.fetchInstr
  cases hr : primaryRow s.fetchOpcode.1 with
  | plain j =>
    simp [decode, hr] at h
    have r := row_plain hr
    obtain ⟨rfl, _⟩ := h
    simp [hr, bytesRead, r.2.2, instrLength, r.1, State.afterFetch]
  | skipping j =>
    simp [decode, hr] at h
    have r := row_skip hr
    obtain ⟨rfl, _⟩ := h
    obtain ⟨rfl, _⟩ := r
    simp [hr, bytesRead, State.afterFetch]
  | imm8 f =>
    simp [decode, hr] at h
    obtain ⟨rfl, _⟩ := h
    have r := row_imm8 _ f hr s.fetchOpcode.2.fetch8.1
    simp [hr, bytesRead, r.2.2, instrLength, r.1, State.afterFetch]
  | imm16 f =>
    simp [decode, hr] at h
    obtain ⟨rfl, _⟩ := h
    have r := row_imm16 _ f hr (wordOf s.fetchOpcode.2.fetch8.2.fetch8.1 s.fetchOpcode.2.fetch8.1)
    simp [hr, bytesRead, r.2.2, instrLength, r.1, State.afterFetch, State.fetch16]
  | cbEscape =>
    simp [decode, hr] at h
    obtain ⟨rfl, _⟩ := h
    simp [hr, bytesRead, (cb_wf _).2, instrLength, encode_cbInstr, State.afterFetch]

/-! ### A plain RAM bus -/

theorem State.tick_plain {s : State} (n : Nat) (he : s.env = []) : s.tick n = s.spend (scaledTicks s.doubleSpeed n) := by
  simp [State.tick, State.environment, he]

theorem State.memRead_plain_eq {s : State} {x : Word} (he : s.env = []) (hf : x ≠ ifAddr) (hi : x ≠ ieAddr) :
    s.memRead x = (s.byteAt x, s.spend (scaledTicks s.doubleSpeed 4)) := by
  simp [State.memRead, hf, hi, State.busAnswer, he, State.tick_plain]

theorem State.fetch8_plain {s : State} (he : s.env = []) (hf : s.pc ≠ ifAddr) (hi : s.pc ≠ ieAddr) :
    s.fetch8 = (s.byteAt s.pc, (s.spend (scaledTicks s.doubleSpeed 4)).setPc (s.pc + 1)) := by
  simp [State.fetch8, State.memRead_plain_eq he hf hi]

theorem State.fetchOpcode_plain {s : State} (he : s.env = []) (hf : s.pc ≠ ifAddr) (hi : s.pc ≠ ieAddr)
    (hb : s.haltBugPending = false) :
    s.fetchOpcode =
      (s.byteAt s.pc, ((s.spend (scaledTicks s.doubleSpeed 4)).setOpcodePc s.pc).setPc (s.pc + 1)) := by
  simp [State.fetchOpcode, State.memRead_plain_eq he hf hi, hb]

/-- The opcode fetch after a buggy HALT: PC stays, the bug is over (60_exceptions.md R444). -/
theorem State.fetchOpcode_haltBug {s : State} (he : s.env = []) (hf : s.pc ≠ ifAddr) (hi : s.pc ≠ ieAddr)
    (hp : s.params.haltBug = true) (hb : s.haltBugPending = true) :
    s.fetchOpcode =
      (s.byteAt s.pc, ((s.spend (scaledTicks s.doubleSpeed 4)).setOpcodePc s.pc).setHaltBugPending false) := by
  simp [State.fetchOpcode, State.memRead_plain_eq he hf hi, hp, hb]

end Sys2Proof.Machine
end

