-- ==== Sys2Proof/Laws/Flags.lean ====
section
/-! SUPPORT. What the ALU helpers compute, in exact integer arithmetic: the spec's XOR forms of H and C are the carries and borrows
its prose names (40_alu.md R153 to R156, R162, R163). -/

namespace Sys2Proof.Machine

/-- Testing one bit with a mask. -/
theorem and_mask_ne_zero (x : Word) {i : Nat} (hi : i < 16) : (x &&& BitVec.twoPow 16 i != 0#16) = x.getLsbD i := by
  rw [BitVec.and_twoPow]
  by_cases h : x.getLsbD i = true
  · have : BitVec.twoPow 16 i ≠ 0#16 := fun h0 => by
      have := congrArg (fun v => v.getLsbD i) h0
      simp [hi] at this
    simp [h, this]
  · simp [h]

theorem carryIn16_toNat (c : Bool) : (carryIn16 c).toNat = c.toNat := by cases c <;> rfl

theorem zext16_toNat (v : Byte) : (zext16 v).toNat = v.toNat := by
  unfold zext16
  rw [BitVec.toNat_setWidth]
  exact Nat.mod_eq_of_lt (by have := v.isLt; omega)

theorem loByte_toNat (t : Word) : (loByte t).toNat = t.toNat % 256 := by
  simp [loByte]

theorem hiByte_toNat (t : Word) : (hiByte t).toNat = t.toNat / 256 := by
  simp only [hiByte, BitVec.extractLsb'_toNat, Nat.shiftRight_eq_div_pow]
  exact Nat.mod_eq_of_lt (by have := t.isLt; omega)

theorem byte_beq_zero (v : Byte) : (v == 0#8) = decide (v.toNat = 0) := by
  rw [Bool.eq_iff_iff]
  simp [BitVec.toNat_eq]

theorem getLsbD_eq_decide {w : Nat} (t : BitVec w) (i : Nat) : t.getLsbD i = decide (t.toNat / 2 ^ i % 2 = 1) := by
  rw [BitVec.getLsbD, Nat.testBit_eq_decide_div_mod_eq]

/-- Bit i of a sum with carry-in, XORed with its operands, is the carry into bit i. -/
theorem xor_add_bit (a b : Word) (c : Bool) {i : Nat} (hi : i < 16) :
    (a ^^^ b ^^^ (a + b + carryIn16 c)).getLsbD i = decide (2 ^ i ≤ a.toNat % 2 ^ i + b.toNat % 2 ^ i + c.toNat) := by
  have h : (a + b + carryIn16 c).getLsbD i = (a.getLsbD i ^^ (b.getLsbD i ^^ BitVec.carry i a b c)) :=
    BitVec.getLsbD_add_add_bool hi a b c
  simp only [BitVec.getLsbD_xor, h, BitVec.carry]
  cases a.getLsbD i <;> cases b.getLsbD i <;> simp

theorem xor_sub_bit (a b : Word) (c : Bool) {i : Nat} (hi : i < 16) :
    (a ^^^ b ^^^ (a - b - carryIn16 c)).getLsbD i =
      decide (2 ^ i ≤ (a - b - carryIn16 c).toNat % 2 ^ i + b.toNat % 2 ^ i + c.toNat) := by
  have ha : (a - b - carryIn16 c) + b + carryIn16 c = a := by bv_omega
  have h := xor_add_bit (a - b - carryIn16 c) b c hi
  rw [ha] at h
  rw [← h]
  simp only [BitVec.getLsbD_xor]
  cases a.getLsbD i <;> cases b.getLsbD i <;> cases (a - b - carryIn16 c).getLsbD i <;> rfl

/-- The flags of an addition: of the exact sum and of the sum of the low nibbles. -/
theorem adc8_eq (a b : Byte) (c : Bool) : adc8 a b c =
    (BitVec.ofNat 8 (a.toNat + b.toNat + c.toNat),
      { z := some (decide ((a.toNat + b.toNat + c.toNat) % 256 = 0))
        n := some false
        h := some (decide (16 ≤ a.toNat % 16 + b.toNat % 16 + c.toNat))
        c := some (decide (256 ≤ a.toNat + b.toNat + c.toNat)) }) := by
  have hc : c.toNat ≤ 1 := by cases c <;> decide
  have ht : (zext16 a + zext16 b + carryIn16 c).toNat = a.toNat + b.toNat + c.toNat := by
    simp only [BitVec.toNat_add, zext16_toNat, carryIn16_toNat]
    have := a.isLt; have := b.isLt; omega
  have hh := xor_add_bit (zext16 a) (zext16 b) c (i := 4) (by decide)
  have hm := and_mask_ne_zero (zext16 a ^^^ zext16 b ^^^ (zext16 a + zext16 b + carryIn16 c)) (i := 4) (by decide)
  have h10 : BitVec.twoPow 16 4 = 0x10#16 := by decide
  rw [h10, hh, zext16_toNat, zext16_toNat] at hm
  unfold adc8 arith8Update
  simp only [hm, byte_beq_zero, loByte_toNat, getLsbD_eq_decide, ht, Prod.mk.injEq, FlagUpdate.mk.injEq, Option.some.injEq,
    true_and, decide_eq_decide]
  refine ⟨BitVec.eq_of_toNat_eq (by simp [loByte_toNat, ht]), ?_⟩
  have := a.isLt; have := b.isLt
  omega

theorem add8_eq_adc8 (a b : Byte) : add8 a b = adc8 a b false := by
  have h : zext16 a + zext16 b + carryIn16 false = zext16 a + zext16 b := by simp [carryIn16]
  unfold add8 adc8
  rw [h]

/-- The flags of a subtraction: of the exact difference and of the difference of the low nibbles. -/
theorem sbc8_eq (a b : Byte) (c : Bool) : sbc8 a b c =
    (BitVec.ofNat 8 (a.toNat + 512 - (b.toNat + c.toNat)),
      { z := some (decide ((a.toNat + 512 - (b.toNat + c.toNat)) % 256 = 0))
        n := some true
        h := some (decide (a.toNat % 16 < b.toNat % 16 + c.toNat))
        c := some (decide (a.toNat < b.toNat + c.toNat)) }) := by
  have hc : c.toNat ≤ 1 := by cases c <;> decide
  have ht : (zext16 a - zext16 b - carryIn16 c).toNat = (a.toNat + 65536 - (b.toNat + c.toNat)) % 65536 := by
    simp only [BitVec.toNat_sub, zext16_toNat, carryIn16_toNat]
    have := a.isLt; have := b.isLt; omega
  have hh := xor_sub_bit (zext16 a) (zext16 b) c (i := 4) (by decide)
  have hm := and_mask_ne_zero (zext16 a ^^^ zext16 b ^^^ (zext16 a - zext16 b - carryIn16 c)) (i := 4) (by decide)
  have h10 : BitVec.twoPow 16 4 = 0x10#16 := by decide
  rw [h10, hh, ht, zext16_toNat] at hm
  unfold sbc8 arith8Update
  simp only [hm, byte_beq_zero, loByte_toNat, getLsbD_eq_decide, ht, Prod.mk.injEq, FlagUpdate.mk.injEq, Option.some.injEq,
    true_and, decide_eq_decide]
  have := a.isLt; have := b.isLt
  refine ⟨BitVec.eq_of_toNat_eq ?_, ?_, ?_, ?_⟩
  · simp only [loByte_toNat, ht, BitVec.toNat_ofNat]; omega
  all_goals omega

theorem sub8_eq_sbc8 (a b : Byte) : sub8 a b = sbc8 a b false := by
  have h : zext16 a - zext16 b - carryIn16 false = zext16 a - zext16 b := by simp [carryIn16]
  unfold sub8 sbc8
  rw [h]

/-- H from bit 11 and C from bit 15 (R162). -/
theorem add16_eq (x y : Word) : add16 x y =
    (x + y,
      { z := none
        n := some false
        h := some (decide (4096 ≤ x.toNat % 4096 + y.toNat % 4096))
        c := some (decide (65536 ≤ x.toNat + y.toNat)) }) := by
  have hx := x.isLt
  have hy := y.isLt
  have ht : (x.setWidth 32 + y.setWidth 32).toNat = x.toNat + y.toNat := by
    simp only [BitVec.toNat_add, BitVec.toNat_setWidth]
    omega
  have hbit : (x.setWidth 32 ^^^ y.setWidth 32 ^^^ (x.setWidth 32 + y.setWidth 32)).getLsbD 12 =
      decide (4096 ≤ x.toNat % 4096 + y.toNat % 4096) := by
    have h := BitVec.getLsbD_add (i := 12) (by decide : 12 < 32) (x.setWidth 32) (y.setWidth 32)
    simp only [BitVec.getLsbD_xor, h, BitVec.carry]
    have hx' : (x.setWidth 32).toNat = x.toNat := by rw [BitVec.toNat_setWidth]; omega
    have hy' : (y.setWidth 32).toNat = y.toNat := by rw [BitVec.toNat_setWidth]; omega
    rw [hx', hy']
    cases (x.setWidth 32).getLsbD 12 <;> cases (y.setWidth 32).getLsbD 12 <;> simp
  have hm : (((x.setWidth 32 ^^^ y.setWidth 32 ^^^ (x.setWidth 32 + y.setWidth 32)) &&& 0x1000#32) != 0#32) =
      decide (4096 ≤ x.toNat % 4096 + y.toNat % 4096) := by
    have h10 : (0x1000#32 : BitVec 32) = BitVec.twoPow 32 12 := by decide
    rw [h10, BitVec.and_twoPow, hbit]
    by_cases hd : 4096 ≤ x.toNat % 4096 + y.toNat % 4096 <;> simp [hd]
    decide
  unfold add16
  simp only [hm, getLsbD_eq_decide, ht, Prod.mk.injEq, FlagUpdate.mk.injEq, Option.some.injEq, true_and, decide_eq_decide]
  refine ⟨BitVec.eq_of_toNat_eq ?_, ?_⟩
  · simp only [BitVec.extractLsb'_toNat, ht, BitVec.toNat_add]; simp
  · omega

theorem sext16_low (e : Byte) : (sext16 e).toNat % 256 = e.toNat := by
  revert e
  decide

/-- H and C "only from the low byte" (R163). -/
theorem addSpSigned8_eq (sp : Word) (e : Byte) : addSpSigned8 sp e =
    (sp + sext16 e,
      { z := some false
        n := some false
        h := some (decide (16 ≤ sp.toNat % 16 + e.toNat % 16))
        c := some (decide (256 ≤ sp.toNat % 256 + e.toNat)) }) := by
  have he := sext16_low e
  have hsum : sp + sext16 e + carryIn16 false = sp + sext16 e := by simp [carryIn16]
  have h4 := xor_add_bit sp (sext16 e) false (i := 4) (by decide)
  have h8 := xor_add_bit sp (sext16 e) false (i := 8) (by decide)
  rw [hsum] at h4 h8
  have m4 := and_mask_ne_zero (sp ^^^ sext16 e ^^^ (sp + sext16 e)) (i := 4) (by decide)
  have m8 := and_mask_ne_zero (sp ^^^ sext16 e ^^^ (sp + sext16 e)) (i := 8) (by decide)
  have w4 : BitVec.twoPow 16 4 = 0x10#16 := by decide
  have w8 : BitVec.twoPow 16 8 = 0x100#16 := by decide
  rw [w4, h4] at m4
  rw [w8, h8] at m8
  unfold addSpSigned8
  simp only [m4, m8, Prod.mk.injEq, FlagUpdate.mk.injEq, Option.some.injEq, true_and, decide_eq_decide]
  simp only [Bool.toNat_false]
  omega

/-! ### Rotates and shifts, as numbers -/

theorem rot8_eq (op : RotOp) (v : Byte) (cin : Bool) : rot8 op v cin =
    (BitVec.ofNat 8 (rotResult op v.toNat cin).1,
      rot8Update (BitVec.ofNat 8 (rotResult op v.toNat cin).1) (rotResult op v.toNat cin).2) := by
  revert v
  cases op <;> cases cin <;> decide

end Sys2Proof.Machine
end

