-- ==== Sys2Proof/Laws/Interrupts.lean ====
section
/-! SUPPORT. What the environment's actions and the interrupt check do (60_exceptions.md R410, R421 to R424, R450). -/

namespace Sys2Proof.Machine

/-! ### The environment's actions -/

/-- Actions OR into `irq_flags` exactly the sources they name. -/
theorem State.applyActions_irqFlags (xs : List EnvAction) (s : State) (i : Fin 5) :
    (State.applyActions xs s).irqFlags.getLsbD i.val = (s.irqFlags.getLsbD i.val || decide (.raiseInterrupt i ∈ xs)) := by
  induction xs generalizing s with
  | nil => simp [State.applyActions]
  | cons x xs ih =>
    rw [State.applyActions, ih]
    cases x with
    | armSpeedSwitch => simp [State.applyAction]
    | raiseInterrupt j =>
      have hbit : ∀ i j : Fin 5, (1#5 <<< j.val).getLsbD i.val = decide (i = j) := by decide
      have hone : (s.applyAction (.raiseInterrupt j)).irqFlags.getLsbD i.val =
          (s.irqFlags.getLsbD i.val || decide (i = j)) := by
        simp only [State.applyAction, State.raiseInterrupt_irqFlags, BitVec.getLsbD_or, hbit]
      rw [hone]
      simp [Bool.or_assoc]

/-- Actions arm the speed switch exactly when one of them does. -/
theorem State.applyActions_speedSwitchPending (xs : List EnvAction) (s : State) :
    (State.applyActions xs s).speedSwitchPending = (s.speedSwitchPending || decide (.armSpeedSwitch ∈ xs)) := by
  induction xs generalizing s with
  | nil => simp [State.applyActions]
  | cons x xs ih =>
    rw [State.applyActions, ih]
    cases x <;> simp [State.applyAction]

/-! ### The interrupt check -/

theorem lowestSetBit_eq_some (m : BitVec 5) (i : Fin 5) (h : m.getLsbD i.val = true)
    (hl : ∀ j < i.val, m.getLsbD j = false) : lowestSetBit m = some i := by
  revert m i; decide

theorem State.dispatchIfEnabled_zero (s : State) : s.dispatchIfEnabled 0#5 = s := by
  unfold State.dispatchIfEnabled; cases s.ime <;> rfl

/-- A dispatch writes both enables whatever they were. -/
theorem State.dispatchInterrupt_setIme (s : State) (i : Fin 5) (v w : Bool) :
    State.dispatchInterrupt i (s.setIme v w) = State.dispatchInterrupt i s := rfl

@[simp] theorem State.dispatchInterrupt_ime (s : State) (i : Fin 5) : (s.dispatchInterrupt i).ime = false := by
  simp [State.dispatchInterrupt]

@[simp] theorem State.dispatchInterrupt_imeNext (s : State) (i : Fin 5) : (s.dispatchInterrupt i).imeNext = false := by
  simp [State.dispatchInterrupt]

@[simp] theorem State.dispatchInterrupt_halted (s : State) (i : Fin 5) : (s.dispatchInterrupt i).halted = s.halted := by
  simp [State.dispatchInterrupt]

@[simp] theorem State.dispatchInterrupt_fault (s : State) (i : Fin 5) : (s.dispatchInterrupt i).fault = s.fault := by
  simp [State.dispatchInterrupt]

@[simp] theorem State.dispatchInterrupt_haltBugPending (s : State) (i : Fin 5) :
    (s.dispatchInterrupt i).haltBugPending = s.haltBugPending := by
  simp [State.dispatchInterrupt]

@[simp] theorem State.dispatchInterrupt_params (s : State) (i : Fin 5) : (s.dispatchInterrupt i).params = s.params := by
  simp [State.dispatchInterrupt]

@[simp] theorem State.dispatchInterrupt_opcodePc (s : State) (i : Fin 5) : (s.dispatchInterrupt i).opcodePc = s.opcodePc := by
  simp [State.dispatchInterrupt]

@[simp] theorem State.dispatchInterrupt_doubleSpeed (s : State) (i : Fin 5) :
    (s.dispatchInterrupt i).doubleSpeed = s.doubleSpeed := by
  simp [State.dispatchInterrupt]

/-- The time a dispatch takes (R422, R482). -/
theorem State.dispatchInterrupt_clock (s : State) (i : Fin 5) :
    (s.dispatchInterrupt i).timestamp = s.timestamp + scaledTicks s.doubleSpeed 20 ∧
    (s.dispatchInterrupt i).elapsed = s.elapsed + scaledTicks s.doubleSpeed 20 := by
  have h := (within_push16 (((s.setIrqFlags (s.irqFlags &&& ~~~(1#5 <<< i.val))).setIme false false).tick 12)
    (((s.setIrqFlags (s.irqFlags &&& ~~~(1#5 <<< i.val))).setIme false false).tick 12).pc)
  constructor
  · have e := h.timestamp
    simp only [State.tick_timestamp, State.setIme_timestamp, State.setIrqFlags_timestamp, State.tick_doubleSpeed,
      State.setIme_doubleSpeed, State.setIrqFlags_doubleSpeed, Nat.add_assoc] at e
    rw [scaledTicks_add _ (by decide) (by decide)] at e
    exact e
  · have e := h.elapsed
    simp only [State.tick_elapsed, State.setIme_elapsed, State.setIrqFlags_elapsed, State.tick_doubleSpeed,
      State.setIme_doubleSpeed, State.setIrqFlags_doubleSpeed, Nat.add_assoc] at e
    rw [scaledTicks_add _ (by decide) (by decide)] at e
    exact e

theorem State.setIme_dispatchInterrupt (s : State) (i : Fin 5) :
    (s.dispatchInterrupt i).setIme false false = s.dispatchInterrupt i := by
  have h1 := s.dispatchInterrupt_ime i
  have h2 := s.dispatchInterrupt_imeNext i
  generalize s.dispatchInterrupt i = t at *
  cases t
  simp_all [State.setIme]

/-- The gate of a dispatch: `ime` as step 4 finds it, in the order of the parameter (R421, R424). -/
def State.dispatchGate (s : State) : Bool :=
  match s.params.eiDispatchOrder with
  | .doc => s.imeNext
  | .late => s.ime

/-- The interrupt check when the gate is open and a request is active. -/
theorem State.interruptCheck_dispatch (s : State) (i : Fin 5) (hg : s.dispatchGate = true)
    (h : s.activeIrqs.getLsbD i.val = true) (hl : ∀ j < i.val, s.activeIrqs.getLsbD j = false) :
    s.interruptCheck = State.dispatchInterrupt i (s.setHalted false) := by
  have hlow := lowestSetBit_eq_some _ i h hl
  have hne : (s.activeIrqs == 0#5) = false := by
    have : s.activeIrqs ≠ 0#5 := fun e => by simp [e] at h
    simpa using this
  unfold State.dispatchGate at hg
  unfold State.interruptCheck
  cases hp : s.params.eiDispatchOrder <;> simp only [hp] at hg <;>
    simp [State.dispatchIfEnabled, hg, hlow, hne, State.dispatchInterrupt_setIme, State.setIme_dispatchInterrupt]

/-- The interrupt check when nothing is dispatched. -/
theorem State.interruptCheck_none (s : State) (hg : s.dispatchGate = false ∨ s.activeIrqs = 0#5) :
    s.interruptCheck = (s.setIme s.imeNext s.imeNext).setHalted (s.halted && s.activeIrqs == 0#5) := by
  unfold State.dispatchGate at hg
  unfold State.interruptCheck
  rcases hg with hg | hg
  · cases hp : s.params.eiDispatchOrder <;> simp only [hp] at hg <;> simp [State.dispatchIfEnabled, hg] <;> rfl
  · cases hp : s.params.eiDispatchOrder <;> simp only [hg, State.dispatchIfEnabled_zero] <;> rfl

/-- Everything the interrupt check can do. -/
theorem State.interruptCheck_cases (s : State) :
    (s.activeIrqs ≠ 0#5 ∧ ∃ i, s.interruptCheck = State.dispatchInterrupt i (s.setHalted false)) ∨
    s.interruptCheck = (s.setIme s.imeNext s.imeNext).setHalted (s.halted && s.activeIrqs == 0#5) := by
  by_cases hg : s.dispatchGate = false ∨ s.activeIrqs = 0#5
  · exact .inr (s.interruptCheck_none hg)
  · rw [not_or] at hg
    refine .inl ⟨hg.2, ?_⟩
    have hsome : ∀ m : BitVec 5, m ≠ 0#5 →
        ∃ i : Fin 5, m.getLsbD i.val = true ∧ ∀ j < i.val, m.getLsbD j = false := by decide
    obtain ⟨i, h, hl⟩ := hsome _ hg.2
    exact ⟨i, s.interruptCheck_dispatch i (by simpa using hg.1) h hl⟩

end Sys2Proof.Machine
end

