-- ==== Sys2Proof/Laws/Operands.lean ====
section
/-! SUPPORT. What the operand forms do: what a read leaves alone, what a read-modify-write leaves in its operand and in the flags,
what a push leaves on the stack, and their footprints. -/

namespace Sys2Proof.Machine

/-! ### Register pairs -/

theorem State.hl_setHl (s : State) (v : Word) : (s.setHl v).hl = v := by simp [State.hl, wordOf_hiByte_loByte]

theorem State.hl_applyFlags (s : State) (u : FlagUpdate) : (s.applyFlags u).hl = s.hl := rfl

theorem State.hl_internal (s : State) : s.internal.hl = s.hl := by simp [State.hl]

theorem State.hl_memWrite (s : State) (x : Word) (v : Byte) : (s.memWrite x v).hl = s.hl := by simp [State.hl]

theorem State.hl_setReg8_a (s : State) (v : Byte) : (s.setReg8 .a v).hl = s.hl := rfl

theorem State.hl_r16memPost (s : State) (m : R16mem) :
    (s.r16memPost m).hl = match m with | .bc => s.hl | .de => s.hl | .hlInc => s.hl + 1 | .hlDec => s.hl - 1 := by
  cases m <;> simp [State.r16memPost, State.hl, wordOf_hiByte_loByte]

theorem State.internal_r16 (s : State) (p : R16) : s.internal.r16 p = s.r16 p := by
  cases p <;> simp [State.r16, State.bc, State.de, State.hl]

theorem State.internal_r16stk (s : State) (p : R16stk) : s.internal.r16stk p = s.r16stk p := by
  cases p <;> simp [State.r16stk, State.bc, State.de, State.hl, State.af]

theorem State.r16stk_setR16stk (s : State) (p : R16stk) (v : Word) (hp : p ≠ .af) : (s.setR16stk p v).r16stk p = v := by
  cases p <;> simp [State.setR16stk, State.r16stk, State.bc, State.de, State.hl, wordOf_hiByte_loByte] at *

/-! ### Numbers -/

theorem highPage_toNat (n : Byte) : (highPage n).toNat = 0xFF00 + n.toNat := by
  have := n.isLt
  unfold highPage zext16
  simp only [BitVec.toNat_add, BitVec.toNat_setWidth, BitVec.toNat_ofNat]
  omega

/-- Adding a signed displacement (00_scope.md R11). -/
theorem toNat_add_sext16 (x : Word) (e : Byte) :
    ((x + sext16 e).toNat : Int) = ((x.toNat : Int) + e.toInt) % 65536 := by
  have h1 : (sext16 e).toInt = e.toInt := BitVec.toInt_signExtend_of_le (by decide)
  have h2 := BitVec.toInt_eq_toNat_cond (sext16 e)
  have := (sext16 e).isLt
  have := x.isLt
  rw [BitVec.toNat_add]
  push_cast
  split_ifs at h2 <;> omega

/-! ### R8 operands -/

theorem State.flags_readOperand8 (s : State) (o : Operand8) : (s.readOperand8 o).2.flags = s.flags := by
  cases o <;> simp [State.readOperand8]

theorem State.a_readOperand8 (s : State) (o : Operand8) : (s.readOperand8 o).2.a = s.a := by
  cases o <;> simp [State.readOperand8]

theorem State.flags_writeOperand8 (s : State) (o : Operand8) (v : Byte) : (s.writeOperand8 o v).flags = s.flags := by
  cases o <;> simp [State.writeOperand8]

theorem State.flags_modifyOperand8 (s : State) (o : Operand8) (f : Byte → Flags → Byte × FlagUpdate) :
    (s.modifyOperand8 o f).flags = (f (s.readOperand8 o).1 s.flags).2.apply s.flags := by
  simp [State.modifyOperand8, State.flags_writeOperand8, State.flags_readOperand8]

/-- A read-modify-write leaves the computed byte in its operand. -/
theorem written_modifyOperand8 (s : State) (o : Operand8) (f : Byte → Flags → Byte × FlagUpdate) :
    Written o (f (s.readOperand8 o).1 s.flags).1 2 s (s.modifyOperand8 o f) := by
  cases o with
  | reg r => simp [Written, State.modifyOperand8, State.writeOperand8]
  | atHl =>
    have h := ((stored_memWrite (s.memRead s.hl).2 s.hl (f (s.memRead s.hl).1 s.flags).1).seq (by simp)
      (within_applyFlags _ (f (s.memRead s.hl).1 s.flags).2) (by simp)).after (m := 1) (s := s) (by simp)
    simpa [Written, State.modifyOperand8, State.readOperand8, State.writeOperand8] using h

theorem within_modifyOperand8_double (s : State) (o : Operand8) (f : Byte → Flags → Byte × FlagUpdate) :
    Within { regs := o.regs, flags := true, stores := s.operandStores o, cycles := 2 * o.cycles } s
      (s.modifyOperand8 o f) := by
  have h := within_modifyOperand8 s o f
  rwa [← Nat.two_mul] at h

/-- A read-modify-write that keeps the flags. -/
theorem within_modifyOperand8_keepFlags (s : State) (o : Operand8) (g : Byte → Byte) :
    Within { regs := o.regs, stores := s.operandStores o, cycles := 2 * o.cycles } s
      (s.modifyOperand8 o fun v _ => (g v, keepFlags)) := by
  have hf : (s.modifyOperand8 o fun v _ => (g v, keepFlags)).flags = s.flags := by
    rw [State.flags_modifyOperand8]; rfl
  exact { within_modifyOperand8_double s o fun v _ => (g v, keepFlags) with flags := fun _ => hf }

/-! ### ALU operations on A -/

theorem State.aluA_flags (s : State) (op : AluOp) (v : Byte) :
    (s.aluA op v).flags = (alu8 op s.a v s.flags.c).2.apply s.flags := by
  simp [State.aluA]

theorem State.aluA_a (s : State) (op : AluOp) (v : Byte) :
    (s.aluA op v).a = (alu8 op s.a v s.flags.c).1.getD s.a := by
  simp [State.aluA]; rfl

theorem State.aluA_cp (s : State) (v : Byte) : s.aluA .cp v = s.applyFlags (sub8 s.a v).2 := rfl

theorem rotResult_lt (op : RotOp) (v : Byte) (c : Bool) : (rotResult op v.toNat c).1 < 256 := by
  have := v.isLt
  cases op <;> cases c <;> simp [rotResult] <;> omega

/-! ### The stack -/

/-- What `push16` leaves on the stack. -/
theorem stored_push16 (s : State) (v : Word) :
    Stored (s.sp - 1) (hiByte v) 2 s (s.push16 v) ∧ Stored (s.sp - 2) (loByte v) 2 s (s.push16 v) := by
  rw [State.push16_eq]
  constructor
  · have h := (((stored_memWrite (s.setSp (s.sp - 1)) (s.sp - 1) (hiByte v)).after (m := 0) (s := s) (by simp)).seq
      (by simp) (within_setSp _ (s.sp - 2)) (by simp)).seq (by simp) (within_memWrite _ (s.sp - 2) (loByte v))
      (by simp)
    simpa using h
  · have h := (stored_memWrite (((s.setSp (s.sp - 1)).memWrite (s.sp - 1) (hiByte v)).setSp (s.sp - 2)) (s.sp - 2)
      (loByte v)).after (m := 1) (s := s) (by simp)
    simpa using h

/-- What `pop16` gives on a plain RAM stack. -/
theorem State.pop16_plain {s : State} (he : s.env = []) (h1 : s.sp ≠ ifAddr) (h2 : s.sp ≠ ieAddr)
    (h3 : s.sp + 1 ≠ ifAddr) (h4 : s.sp + 1 ≠ ieAddr) :
    s.pop16.1 = wordOf (s.byteAt (s.sp + 1)) (s.byteAt s.sp) := by
  simp only [State.pop16]
  rw [State.memRead_plain he h1 h2]
  congr 1
  simp only [State.memRead_state_sp]
  rw [State.setSp_sp, State.memRead_plain (by simp [he]) h3 h4]
  exact State.byteAt_congr (by simp) _

end Sys2Proof.Machine
end

