-- ==== Sys2Proof/Laws/Keeps.lean ====
section
/-! SUPPORT. What every piece of a meaning keeps, whatever it does besides: the memory's canonical form, the modes only HALT, STOP and
the illegal bytes change, the parameters, `ime` within `ime_next`, and one clock for `timestamp` and `elapsed`. -/

namespace Sys2Proof.Machine

/-- `t` is reached from `s` in at most `n` cycles by pieces that keep all of this. -/
structure Keeps (n : Nat) (s t : State) : Prop where
  memory : s.mem.wf = true → t.mem.wf = true
  haltBugPending : t.haltBugPending = s.haltBugPending
  halted : t.halted = s.halted
  fault : t.fault = s.fault
  params : t.params = s.params
  ime : (s.ime = true → s.imeNext = true) → t.ime = true → t.imeNext = true
  clock : ∃ k ≤ n, t.timestamp = s.timestamp + k ∧ t.elapsed = s.elapsed + k

theorem Keeps.trans {m n : Nat} {s t u : State} (h1 : Keeps m s t) (h2 : Keeps n t u) : Keeps (m + n) s u where
  memory := fun h => h2.memory (h1.memory h)
  haltBugPending := h2.haltBugPending.trans h1.haltBugPending
  halted := h2.halted.trans h1.halted
  fault := h2.fault.trans h1.fault
  params := h2.params.trans h1.params
  ime := fun h => h2.ime (h1.ime h)
  clock := by
    obtain ⟨j, hj, a, b⟩ := h1.clock
    obtain ⟨k, hk, c, d⟩ := h2.clock
    exact ⟨j + k, Nat.add_le_add hj hk, by omega, by omega⟩

theorem Keeps.mono {m n : Nat} {s t : State} (h : Keeps m s t) (hle : m ≤ n) : Keeps n s t :=
  { h with clock := h.clock.imp fun _ ⟨hk, e⟩ => ⟨hk.trans hle, e⟩ }

/-- A piece with a footprint keeps it all, if it keeps the memory's form and the two enables. -/
theorem Within.keeps {f : Footprint} {s t : State} (h : Within f s t) (hm : s.mem.wf = true → t.mem.wf = true)
    (hi : (s.ime = true → s.imeNext = true) → t.ime = true → t.imeNext = true) : Keeps f.cycles s t :=
  ⟨hm, h.haltBugPending, h.halted, h.fault, h.params, hi, _, scaledTicks_le _ _, h.timestamp, h.elapsed⟩

theorem Keeps.ofWithin {f : Footprint} {s t : State} (h : Within f s t) (hm : s.mem.wf = true → t.mem.wf = true)
    (hi : f.ime = false := by rfl) : Keeps f.cycles s t :=
  h.keeps hm fun e => by rw [(h.ime hi).1, (h.ime hi).2]; exact e

/-! ### The shared operations -/

theorem keeps_refl (s : State) : Keeps 0 s s := .ofWithin (within_refl s) id

theorem keeps_internal (s : State) : Keeps 4 s s.internal := .ofWithin (within_internal s) (by simp)

theorem keeps_memRead (s : State) (x : Word) : Keeps 4 s (s.memRead x).2 := .ofWithin (within_memRead s x) (by simp)

theorem keeps_memWrite (s : State) (x : Word) (v : Byte) : Keeps 4 s (s.memWrite x v) :=
  .ofWithin (within_memWrite s x v) (State.wf_memWrite x v)

theorem keeps_setReg8 (s : State) (r : Reg8) (v : Byte) : Keeps 0 s (s.setReg8 r v) :=
  .ofWithin (within_setReg8 s r v) (by simp)

theorem keeps_applyFlags (s : State) (u : FlagUpdate) : Keeps 0 s (s.applyFlags u) :=
  .ofWithin (within_applyFlags s u) id

theorem keeps_setSp (s : State) (v : Word) : Keeps 0 s (s.setSp v) := .ofWithin (within_setSp s v) id

theorem keeps_setPc (s : State) (v : Word) : Keeps 0 s (s.setPc v) := .ofWithin (within_setPc s v) id

theorem keeps_setR16 (s : State) (p : R16) (v : Word) : Keeps 0 s (s.setR16 p v) :=
  .ofWithin (within_setR16 s p v) (by cases p <;> exact id)

theorem keeps_setR16stk (s : State) (p : R16stk) (v : Word) : Keeps 0 s (s.setR16stk p v) :=
  .ofWithin (within_setR16stk s p v) (by cases p <;> exact id)

theorem keeps_r16memPost (s : State) (m : R16mem) : Keeps 0 s (s.r16memPost m) :=
  .ofWithin (within_r16memPost s m) (by cases m <;> exact id)

theorem keeps_setIme (s : State) {v w : Bool} (h : (s.ime = true → s.imeNext = true) → v = true → w = true) :
    Keeps 0 s (s.setIme v w) := (within_setIme s v w).keeps id h

theorem keeps_fetch8 (s : State) : Keeps 4 s s.fetch8.2 := (keeps_memRead s s.pc).trans (keeps_setPc _ _)

theorem keeps_push16 (s : State) (v : Word) : Keeps 8 s (s.push16 v) := by
  rw [State.push16_eq]
  exact ((keeps_setSp s _).trans (keeps_memWrite _ _ _)).trans ((keeps_setSp _ _).trans (keeps_memWrite _ _ _))

theorem keeps_pop16 (s : State) : Keeps 8 s s.pop16.2 :=
  ((keeps_memRead s _).trans (keeps_setSp _ _)).trans ((keeps_memRead _ _).trans (keeps_setSp _ _))

theorem keeps_returnFromCall (s : State) : Keeps 12 s s.returnFromCall :=
  (keeps_pop16 s).trans ((keeps_internal _).trans (keeps_setPc _ _))

theorem keeps_readOperand8 (s : State) (o : Operand8) : Keeps 4 s (s.readOperand8 o).2 := by
  cases o with
  | reg r => exact (keeps_refl s).mono (by decide)
  | atHl => exact keeps_memRead s s.hl

theorem keeps_writeOperand8 (s : State) (o : Operand8) (v : Byte) : Keeps 4 s (s.writeOperand8 o v) := by
  cases o with
  | reg r => exact (keeps_setReg8 s r v).mono (by decide)
  | atHl => exact keeps_memWrite s s.hl v

theorem keeps_modifyOperand8 (s : State) (o : Operand8) (f : Byte → Flags → Byte × FlagUpdate) :
    Keeps 8 s (s.modifyOperand8 o f) :=
  (keeps_readOperand8 s o).trans ((keeps_writeOperand8 _ o _).trans (keeps_applyFlags _ _))

theorem keeps_aluA (s : State) (op : AluOp) (v : Byte) : Keeps 0 s (s.aluA op v) :=
  (keeps_setReg8 s .a _).trans (keeps_applyFlags _ _)

/-- A dispatch keeps it all, in 20 cycles (60_exceptions.md R422). -/
theorem keeps_dispatchInterrupt (s : State) (i : Fin 5) : Keeps 20 s (s.dispatchInterrupt i) := by
  have h := keeps_push16 (((s.setIrqFlags (s.irqFlags &&& ~~~(1#5 <<< i.val))).setIme false false).tick 12)
    (((s.setIrqFlags (s.irqFlags &&& ~~~(1#5 <<< i.val))).setIme false false).tick 12).pc
  have ht : Keeps 12 s (((s.setIrqFlags (s.irqFlags &&& ~~~(1#5 <<< i.val))).setIme false false).tick 12) :=
    ⟨by simp, by simp, by simp, by simp, by simp, by simp, _, scaledTicks_le s.doubleSpeed 12, by simp, by simp⟩
  exact ht.trans (h.trans (keeps_setPc _ (vectorOf i)))

end Sys2Proof.Machine
end

