-- ==== Sys2Proof/Tests/Slice0.lean ====
section
/-! SUPPORT. The model's own tests. Expected values are the spec's: its test vectors (95_test_vectors.md, named V-…), its encodings
(30_encoding.md, 41 to 45) and its rules. The witnesses at the end meet the hypotheses of the statements that have any. -/

namespace Sys2Proof.Machine

/-! ### Well-formedness -/

theorem test_wellformed_refuses_lone_prefix : WellFormed .prefixCb = false := by decide
theorem test_wellformed_accepts_cb_row : WellFormed .swapA = true := by decide
theorem test_wellformed_accepts_stop : WellFormed .stop = true := by decide

/-! ### Decoding: words written out from the encodings -/

theorem test_decode_ld_pair_n16 : decode [0x01#8, 0x34#8, 0x12#8] = .instr (.ldBcN16 0x1234#16) [] := by decide
theorem test_decode_ld_at_pair_a : decode [0x02#8] = .instr .ldAtBcA [] := by decide
theorem test_decode_ld_a_at_hl_dec : decode [0x3A#8] = .instr .ldAAtHlDec [] := by decide
theorem test_decode_inc_pair : decode [0x13#8] = .instr .incDe [] := by decide
theorem test_decode_dec_sp : decode [0x3B#8] = .instr .decSp [] := by decide
theorem test_decode_add_hl_sp : decode [0x39#8] = .instr .addHlSp [] := by decide
theorem test_decode_inc_at_hl : decode [0x34#8] = .instr .incAtHl [] := by decide
theorem test_decode_dec_l : decode [0x2D#8] = .instr .decL [] := by decide
theorem test_decode_ld_e_n8 : decode [0x1E#8, 0xA5#8] = .instr (.ldEN8 0xA5#8) [] := by decide
theorem test_decode_rra : decode [0x1F#8] = .instr .rra [] := by decide
theorem test_decode_daa : decode [0x27#8] = .instr .daa [] := by decide
theorem test_decode_ccf : decode [0x3F#8] = .instr .ccf [] := by decide
theorem test_decode_ld_n16_sp : decode [0x08#8, 0x00#8, 0xC1#8] = .instr (.ldAtN16Sp 0xC100#16) [] := by decide
theorem test_decode_jr : decode [0x18#8, 0xFE#8] = .instr (.jrE8 0xFE#8) [] := by decide
theorem test_decode_jr_nc : decode [0x30#8, 0x05#8] = .instr (.jrNcE8 0x05#8) [] := by decide
theorem test_decode_stop_skips_a_byte : decode [0x10#8, 0x99#8, 0x00#8] = .instr .stop [0x00#8] := by decide
theorem test_decode_ld_h_l : decode [0x65#8] = .instr .ldHL [] := by decide
theorem test_decode_ld_h_at_hl : decode [0x66#8] = .instr .ldHAtHl [] := by decide
theorem test_decode_ld_at_hl_l : decode [0x75#8] = .instr .ldAtHlL [] := by decide
theorem test_decode_halt_is_not_a_load : decode [0x76#8] = .instr .halt [] := by decide
theorem test_decode_add_a_b : decode [0x80#8] = .instr .addAB [] := by decide
theorem test_decode_cp_a_at_hl : decode [0xBE#8] = .instr .cpAAtHl [] := by decide
theorem test_decode_ret_c : decode [0xD8#8] = .instr .retC [] := by decide
theorem test_decode_reti : decode [0xD9#8] = .instr .reti [] := by decide
theorem test_decode_jp_z : decode [0xCA#8, 0x00#8, 0x20#8] = .instr (.jpZN16 0x2000#16) [] := by decide
theorem test_decode_jp_hl : decode [0xE9#8] = .instr .jpHl [] := by decide
theorem test_decode_call : decode [0xCD#8, 0x34#8, 0x12#8] = .instr (.callN16 0x1234#16) [] := by decide
theorem test_decode_rst_38 : decode [0xFF#8] = .instr .rst38 [] := by decide
theorem test_decode_push_af : decode [0xF5#8] = .instr .pushAf [] := by decide
theorem test_decode_sbc_n8 : decode [0xDE#8, 0x0F#8] = .instr (.sbcAN8 0x0F#8) [] := by decide
theorem test_decode_ldh_n8_a : decode [0xE0#8, 0x80#8] = .instr (.ldhAtN8A 0x80#8) [] := by decide
theorem test_decode_ldh_a_c : decode [0xF2#8] = .instr .ldhAAtC [] := by decide
theorem test_decode_ld_a_n16 : decode [0xFA#8, 0x00#8, 0xC0#8] = .instr (.ldAAtN16 0xC000#16) [] := by decide
theorem test_decode_add_sp : decode [0xE8#8, 0xFF#8] = .instr (.addSpE8 0xFF#8) [] := by decide
theorem test_decode_ld_sp_hl : decode [0xF9#8] = .instr .ldSpHl [] := by decide
theorem test_decode_di : decode [0xF3#8] = .instr .di [] := by decide
theorem test_decode_ei : decode [0xFB#8] = .instr .ei [] := by decide
theorem test_decode_illegal : decode [0xD3#8] = .instr .illegalD3 [] := by decide
theorem test_decode_lone_prefix : decode [0xCB#8] = .instr .prefixCb [] := by decide
theorem test_decode_rlc_at_hl : decode [0xCB#8, 0x06#8] = .instr .rlcAtHl [] := by decide
theorem test_decode_srl_a : decode [0xCB#8, 0x3F#8] = .instr .srlA [] := by decide
theorem test_decode_bit_7_h : decode [0xCB#8, 0x7C#8] = .instr .bit7H [] := by decide
theorem test_decode_res_0_at_hl : decode [0xCB#8, 0x86#8] = .instr .res0AtHl [] := by decide
theorem test_decode_set_3_e : decode [0xCB#8, 0xDB#8] = .instr .set3E [] := by decide
theorem test_decode_names_no_byte : decode [] = .noByte := by decide
theorem test_decode_names_missing_immediate : decode [0xC3#8, 0x50#8] = .missingImmediate := by decide
theorem test_table_word_with_zero_operand : decodeTableWord 8 0xC3 = some (.jpN16 0x0000#16) := by decide
theorem test_table_word_cb_either_way :
    decodeTableWord 16 0xCB40 = some .bit0B ∧ decodeTableWord 16 0x40CB = some .bit0B := by decide

/-! ### Single steps -/

/-- `s` with bytes stored at an address. -/
def holding (a : Word) (bs : List Byte) (s : State) : State := { s with mem := Memory.store s.mem a bs }

/-- What one step leaves of `s` with an instruction at PC. -/
def stepped (bs : List Byte) (s : State) (p : State → Bool) : Bool :=
  match step (holding s.pc bs s) with
  | .next t => p t
  | .fault _ => false
  | .refused _ => false

/-- Flags from their packed bits. -/
def znhc (f : Byte) : Flags := Flags.unpack f

theorem test_reset_runs_a_placed_word :
    step (State.reset.withFetchWord 8 0x00) =
      .next { State.reset with pc := 0x0101#16, timestamp := 4, elapsed := 4, opcodePc := 0x0100#16 } := rfl

theorem test_placed_cb_word :
    stepped [0xCB#8, 0x37#8] { State.reset with a := 0xF1#8 } (fun t => t.a == 0x1F#8 && t.pc == 0x0102#16 && t.elapsed == 8) =
      true := by decide

/-- V-B0-05: the write to 0xFFFF lands in IE, HL wraps. -/
theorem test_ld_hlinc_a_to_ie :
    stepped [0x22#8] { State.reset with a := 0x56#8, h := 0xFF#8, l := 0xFF#8 }
      (fun t => t.hl == 0x0000#16 && t.irqEnable == 0x16#5 && t.mem == [(0x0100, 0x22#8)] && t.elapsed == 8) = true := by decide

/-- V-B0-13. -/
theorem test_add_hl_hl :
    stepped [0x29#8] { State.reset with h := 0x8A#8, l := 0x23#8, flags := znhc 0x80#8 }
      (fun t => t.hl == 0x1446#16 && t.flags == znhc 0xB0#8 && t.elapsed == 8) = true := by decide

/-- V-B0-15: C kept. -/
theorem test_inc_a_wraps :
    stepped [0x3C#8] { State.reset with a := 0xFF#8, flags := znhc 0x10#8 }
      (fun t => t.a == 0x00#8 && t.flags == znhc 0xB0#8) = true := by decide

/-- V-B0-18. -/
theorem test_dec_at_hl_wraps :
    stepped [0x35#8] { State.reset with h := 0xC0#8 }
      (fun t => t.byteAt 0xC000#16 == 0xFF#8 && t.flags == znhc 0x60#8 && t.elapsed == 12) = true := by decide

/-- V-B0-22: Z written false although the result is 0. -/
theorem test_rlca_clears_z :
    stepped [0x07#8] { State.reset with flags := znhc 0x80#8 } (fun t => t.a == 0x00#8 && t.flags == znhc 0x00#8) = true := by
  decide

/-- V-B0-27. -/
theorem test_daa_carries :
    stepped [0x27#8] { State.reset with a := 0x9A#8 } (fun t => t.a == 0x00#8 && t.flags == znhc 0x90#8) = true := by decide

/-- V-B0-31: low byte at the lower address. -/
theorem test_ld_n16_sp :
    stepped [0x08#8, 0x00#8, 0xC1#8] { State.reset with sp := 0xFFF8#16 }
      (fun t => t.byteAt 0xC100#16 == 0xF8#8 && t.byteAt 0xC101#16 == 0xFF#8 && t.elapsed == 20) = true := by decide

/-- V-B0-34: wraps below 0. -/
theorem test_jr_wraps :
    stepped [0x18#8, 0x80#8] { State.reset with pc := 0x0010#16 } (fun t => t.pc == 0xFF92#16 && t.elapsed == 12) = true := by
  decide

/-- V-B0-36: not taken. -/
theorem test_jr_nz_not_taken :
    stepped [0x20#8, 0x05#8] { State.reset with flags := znhc 0x80#8 } (fun t => t.pc == 0x0102#16 && t.elapsed == 8) = true := by
  decide

/-- V-B0-39: the fetch tick is 2 in double speed. -/
theorem test_stop_switches_back :
    stepped [0x10#8, 0x00#8] { State.reset with speedSwitchPending := true, doubleSpeed := true }
      (fun t => t.pc == 0x0102#16 && !t.doubleSpeed && !t.speedSwitchPending && t.elapsed == 2) = true := by decide

/-- V-B0-40. -/
theorem test_stop_faults :
    stepped [0x10#8, 0x00#8] State.reset
      (fun t => t.pc == 0x0100#16 && t.fault == some (.unimplementedSystemMode 0x0100#16) && t.elapsed == 4) = true := by decide

/-- V-B1-05: the old HL addresses. -/
theorem test_ld_h_at_hl :
    stepped [0x66#8] (holding 0xC000#16 [0xD0#8] { State.reset with h := 0xC0#8 }) (fun t => t.hl == 0xD000#16) = true := by
  decide

/-- V-B1-08: bits 7..5 dropped. -/
theorem test_ld_at_hl_a_to_if :
    stepped [0x77#8] { State.reset with a := 0xFF#8, h := 0xFF#8, l := 0x0F#8 }
      (fun t => t.irqFlags == 0x1F#5 && t.mem == [(0x0100, 0x77#8)]) = true := by decide

/-- V-B1-09. -/
theorem test_halt_halts : stepped [0x76#8] State.reset (fun t => t.halted && t.pc == 0x0101#16 && t.elapsed == 4) = true := by
  decide

/-- V-B2-05. -/
theorem test_adc_a_b :
    stepped [0x88#8] { State.reset with a := 0xFF#8, b := 0x01#8, flags := znhc 0x10#8 }
      (fun t => t.a == 0x01#8 && t.flags == znhc 0x30#8) = true := by decide

/-- V-B2-12. -/
theorem test_sbc_a_b :
    stepped [0x98#8] { State.reset with b := 0x01#8, flags := znhc 0x10#8 }
      (fun t => t.a == 0xFE#8 && t.flags == znhc 0x70#8) = true := by decide

/-- V-B2-15. -/
theorem test_and_a_b :
    stepped [0xA0#8] { State.reset with b := 0x01#8, flags := znhc 0x10#8 }
      (fun t => t.a == 0x00#8 && t.flags == znhc 0xA0#8) = true := by decide

/-- V-B2-32: A unchanged. -/
theorem test_cp_a_at_hl :
    stepped [0xBE#8] (holding 0xC000#16 [0x0F#8] { State.reset with a := 0x3C#8, h := 0xC0#8, flags := znhc 0x10#8 })
      (fun t => t.a == 0x3C#8 && t.flags == znhc 0x60#8 && t.elapsed == 8) = true := by decide

/-- V-B3-02: the condition step is spent when not taken. -/
theorem test_ret_nz_not_taken :
    stepped [0xC0#8] { State.reset with flags := znhc 0x80#8 }
      (fun t => t.pc == 0x0101#16 && t.sp == 0xFFFE#16 && t.elapsed == 8) = true := by decide

/-- V-B3-05. -/
theorem test_reti :
    stepped [0xD9#8] (holding 0xCFFC#16 [0x34#8, 0x12#8] { State.reset with sp := 0xCFFC#16 })
      (fun t => t.pc == 0x1234#16 && t.sp == 0xCFFE#16 && t.ime && t.imeNext && t.elapsed == 16) = true := by decide

/-- V-B3-07: not taken. -/
theorem test_jp_nc_not_taken :
    stepped [0xD2#8, 0x00#8, 0x20#8] { State.reset with flags := znhc 0x10#8 }
      (fun t => t.pc == 0x0103#16 && t.elapsed == 12) = true := by decide

/-- V-B3-10. -/
theorem test_call_z_taken :
    stepped [0xCC#8, 0x00#8, 0x20#8] { State.reset with flags := znhc 0x80#8 }
      (fun t => t.pc == 0x2000#16 && t.sp == 0xFFFC#16 && t.byteAt 0xFFFC#16 == 0x03#8 && t.byteAt 0xFFFD#16 == 0x01#8 &&
        t.elapsed == 24) = true := by decide

/-- V-B3-14. -/
theorem test_rst_00 :
    stepped [0xC7#8] { State.reset with pc := 0x0200#16 }
      (fun t => t.pc == 0x0000#16 && t.byteAt 0xFFFC#16 == 0x01#8 && t.byteAt 0xFFFD#16 == 0x02#8 && t.elapsed == 16) = true := by
  decide

/-- V-B3-16: the low nibble of F is dropped. -/
theorem test_pop_af :
    stepped [0xF1#8] (holding 0xCFFC#16 [0xFF#8, 0x12#8] { State.reset with sp := 0xCFFC#16 })
      (fun t => t.af == 0x12F0#16 && t.elapsed == 12) = true := by decide

/-- V-B3-19: SP wraps, the low byte lands in IE. -/
theorem test_push_bc_wraps :
    stepped [0xC5#8] { State.reset with b := 0xA1#8, c := 0xB2#8, sp := 0x0001#16 }
      (fun t => t.sp == 0xFFFF#16 && t.irqEnable == 0x12#5 && t.byteAt 0x0000#16 == 0xA1#8 && t.elapsed == 16) = true := by decide

/-- V-B3-29: reads IF; bits 7..5 are free. -/
theorem test_ldh_a_if (t : State) (h : exec (.ldhAAtN8 0x0F#8) { State.reset with irqFlags := 0x15#5 } = .next t) :
    t.a = Config.irqUpperBits 0 ++ 0x15#5 ∧ t.elapsed = 4 := by cases h; exact ⟨rfl, rfl⟩

/-- V-B3-34. -/
theorem test_add_sp :
    stepped [0xE8#8, 0xFF#8] { State.reset with sp := 0x0005#16, flags := znhc 0xC0#8 }
      (fun t => t.sp == 0x0004#16 && t.flags == znhc 0x30#8 && t.elapsed == 16) = true := by decide

/-- V-B3-37. -/
theorem test_ld_hl_sp :
    stepped [0xF8#8, 0x80#8] { State.reset with sp := 0x0080#16 }
      (fun t => t.hl == 0x0000#16 && t.flags == znhc 0x10#8 && t.elapsed == 12) = true := by decide

/-- V-B3-40: only `ime_next`. -/
theorem test_ei : stepped [0xFB#8] State.reset (fun t => !t.ime && t.imeNext) = true := by decide

/-- V-B3-42. -/
theorem test_illegal_d3 :
    stepped [0xD3#8] State.reset
      (fun t => t.pc == 0x0100#16 && t.fault == some (.illegalOpcode 0x0100#16 0xD3#8) && t.elapsed == 4) = true := by decide

/-- R401: the step after a fatal condition stops with it. -/
theorem test_faulted_step_stops :
    step { State.reset with fault := some (.illegalOpcode 0x0100#16 0xD3#8) } = .fault (.illegalOpcode 0x0100#16 0xD3#8) := rfl

/-- R422, R423: of sources 1 and 3 the lower one is dispatched; its handler's first instruction runs in the same step. -/
theorem test_dispatch_lowest :
    stepped [] { State.reset with ime := true, imeNext := true, irqEnable := 0x1F#5, irqFlags := 0x0A#5 }
      (fun t => t.pc == 0x0049#16 && t.irqFlags == 0x08#5 && !t.ime && t.sp == 0xFFFC#16 && t.byteAt 0xFFFD#16 == 0x01#8 &&
        t.elapsed == 24) = true := by decide

/-- R253, R444: with the HALT bug the byte after HALT is fetched twice. -/
theorem test_halt_bug_repeats_a_byte :
    stepped [0x04#8] { State.reset with haltBugPending := true, params := { Config.defaultParams with haltBug := true } }
      (fun t => t.pc == 0x0100#16 && t.b == 0x01#8 && !t.haltBugPending) = true := by decide

/-- R402, D9: after a buggy HALT too, the recorded address and PC are the opcode's own. -/
theorem test_illegal_after_buggy_halt :
    stepped [0xD3#8] { State.reset with haltBugPending := true, params := { Config.defaultParams with haltBug := true } }
      (fun t => t.pc == 0x0100#16 && t.fault == some (.illegalOpcode 0x0100#16 0xD3#8) && !t.haltBugPending) = true := by decide

/-- R403, D8, D9: the same for STOP. -/
theorem test_stop_after_buggy_halt :
    stepped [0x10#8] { State.reset with haltBugPending := true, params := { Config.defaultParams with haltBug := true } }
      (fun t => t.pc == 0x0100#16 && t.fault == some (.unimplementedSystemMode 0x0100#16) && t.elapsed == 4) = true := by decide

/-! ### Witnesses: a concrete state and operands that meet the hypotheses of each statement that has any -/

theorem test_witness_decode_of_encode :
    WellFormed (.ldSpN16 0xFFFE#16) = true ∧ WellFormed .set7A = true ∧ WellFormed .stop = true := by decide

theorem test_witness_step_runs_decoded :
    Safe State.reset ∧ State.reset.interruptCheck.halted = false ∧
    decode State.reset.interruptCheck.answeredBytes = .instr .nop [0x00#8, 0x00#8] := by decide

/-- The end of the address space before IE: the last of the three bytes is at 0xFFFE. -/
def atTheTop : State := holding 0xFFFC#16 [0xC3#8, 0x50#8, 0x01#8] { State.reset with pc := 0xFFFC#16 }

theorem test_witness_step_on_plain_bus :
    Safe atTheTop ∧ atTheTop.halted = false ∧ atTheTop.activeIrqs = 0#5 ∧ atTheTop.haltBugPending = false ∧ atTheTop.env = [] ∧
    (∀ k < 3, atTheTop.pc + BitVec.ofNat 16 k ≠ ifAddr ∧ atTheTop.pc + BitVec.ofNat 16 k ≠ ieAddr) ∧
    decode [atTheTop.byteAt atTheTop.pc, atTheTop.byteAt (atTheTop.pc + 1), atTheTop.byteAt (atTheTop.pc + 2)] =
      .instr (.jpN16 0x0150#16) [] := by decide

/-- The same place right after a buggy HALT: `JP n16` reads its own opcode as the low byte of its operand. -/
def atTheTopBugged : State :=
  { atTheTop with haltBugPending := true, params := { Config.defaultParams with haltBug := true } }

theorem test_witness_step_on_plain_bus_bugged :
    Safe atTheTopBugged ∧ atTheTopBugged.halted = false ∧ atTheTopBugged.activeIrqs = 0#5 ∧ atTheTopBugged.env = [] ∧
    (atTheTopBugged.params.haltBug && atTheTopBugged.haltBugPending) = true ∧
    decode [atTheTopBugged.byteAt atTheTopBugged.pc, atTheTopBugged.byteAt (atTheTopBugged.pc + 1 - 1),
      atTheTopBugged.byteAt (atTheTopBugged.pc + 2 - 1)] = .instr (.jpN16 0x50C3#16) [] := by decide

theorem test_witness_step_keeps_invariant :
    State.Inv State.reset ∧
      step State.reset = .next { State.reset with pc := 0x0101#16, timestamp := 4, elapsed := 4, opcodePc := 0x0100#16 } :=
  ⟨⟨rfl, nofun, nofun, nofun, nofun, Nat.le_refl 0⟩, rfl⟩

/-- A state that has recorded a condition. -/
def faulted : State := { State.reset with fault := some (.unimplementedSystemMode 0x0100#16) }

theorem test_witness_step_stops : faulted.fault = some (.unimplementedSystemMode 0x0100#16) ∧ Safe State.reset := by decide

theorem test_witness_boot_modes :
    Config.defaultParams.bootMode = .plain ∧ { Config.defaultParams with bootMode := .compat }.bootMode = .compat := by decide

theorem test_witness_stores_to_addresses :
    (0xFF00#16).toNat = 0xFF00 + (0x00#8).toNat ∧ (0xFFFF#16).toNat = 0xFF00 + (0xFF#8).toNat ∧
    (0xFF00#16).toNat = 0xFF00 + State.reset.c.toNat := by decide

theorem test_witness_alu_rows :
    (AluOp.add, false) ∈ [(AluOp.add, false), (.adc, true)] ∧ (AluOp.adc, true) ∈ [(AluOp.add, false), (.adc, true)] ∧
    (AluOp.sub, false) ∈ [(AluOp.sub, false), (.sbc, true)] ∧ (AluOp.sbc, true) ∈ [(AluOp.sub, false), (.sbc, true)] := by decide

theorem test_witness_logic_rows :
    ∃ (f : Bool → Bool → Bool) (h : Bool),
      (AluOp.and = .and ∧ f = and ∧ h = true) ∨ (AluOp.and = .xor ∧ f = xor ∧ h = false) ∨
      (AluOp.and = .or ∧ f = or ∧ h = false) := ⟨_, _, .inl ⟨rfl, rfl, rfl⟩⟩

theorem test_witness_rotate_rows :
    (RotAOp.rra, RotOp.rr, 0x1F#8) ∈
      [(RotAOp.rlca, RotOp.rlc, 0x07#8), (.rrca, .rrc, 0x0F#8), (.rla, .rl, 0x17#8), (.rra, .rr, 0x1F#8)] := by decide

theorem test_witness_rotates :
    RotOp.rr ∈ [RotOp.rlc, .rrc, .rl, .rr] ∧
    RotOp.srl ∈ [RotOp.sla, .sra, .swap, .srl] := by decide

theorem test_witness_decimal_adjust :
    State.reset.flags.n = false ∧ { State.reset with flags := znhc 0x40#8 }.flags.n = true := by decide

theorem test_witness_decimal_addition :
    99 < 100 ∧ { State.reset with a := 0x99#8 }.a = bcdByte 99 ∧ 0 < 100 ∧ State.reset.a = bcdByte 0 := by decide

theorem test_witness_prefix : (holding 0x0100#16 [0x37#8] State.reset).fetch8.1 = 0x37#8 := by decide

theorem test_witness_conditions :
    ∀ cc : Cond, (condHolds cc (znhc 0x00#8) = true ∧ condHolds cc (znhc 0x90#8) = false) ∨
      (condHolds cc (znhc 0x90#8) = true ∧ condHolds cc (znhc 0x00#8) = false) := by
  intro cc; cases cc <;> decide

/-- The lowest and the highest stack pointer that touch neither IF nor IE next to those addresses. -/
theorem test_witness_stack :
    [0x0000#16, 0xFF0D#16, 0xFF10#16, 0xFFFD#16].all (fun sp =>
      sp != ifAddr && sp != ieAddr && sp + 1 != ifAddr && sp + 1 != ieAddr) = true := by decide

theorem test_witness_push_then_pop :
    State.reset.env = [] ∧ State.reset.sp - 1 ≠ ifAddr ∧ State.reset.sp - 1 ≠ ieAddr ∧ State.reset.sp - 2 ≠ ifAddr ∧
    State.reset.sp - 2 ≠ ieAddr := by decide

theorem test_witness_stop :
    { State.reset with speedSwitchPending := true }.speedSwitchPending = true ∧ State.reset.speedSwitchPending = false := by
  decide

theorem test_witness_fatal_steps :
    (∀ op ∈ [0x10#8, 0xD3#8], Safe (holding 0x0100#16 [op] State.reset) ∧
      (holding 0x0100#16 [op] State.reset).interruptCheck.halted = false ∧
      ((holding 0x0100#16 [op] State.reset).interruptCheck.memRead 0x0100#16).1 = op ∧
      ((holding 0x0100#16 [op] State.reset).interruptCheck.memRead 0x0100#16).2.speedSwitchPending = false) ∧
    IllegalByte.d3.opcode = 0xD3#8 := by decide

/-- A core with the HALT bug and a request pending. -/
def bugged : State :=
  { State.reset with params := { Config.defaultParams with haltBug := true }, irqEnable := 0x01#5, irqFlags := 0x01#5 }

theorem test_witness_halt :
    (bugged.params.haltBug = true ∧ bugged.ime = false ∧ bugged.irqEnable &&& bugged.irqFlags ≠ 0#5) ∧
    State.reset.params.haltBug = false := by decide

/-- A script whose next turn answers a read, a fast-forward and requests source 4. -/
def scripted : State :=
  { State.reset with env := [{ answer := some 0xAB#8, schedule := some 100#32, actions := [.raiseInterrupt 4] }] }

theorem test_witness_memory_routing :
    (0xFF0F#16).toNat = 0xFF0F ∧ (0xFFFF#16).toNat = 0xFFFF ∧ (0xFF10#16).toNat ≠ 0xFF0F ∧ (0xFFFE#16).toNat ≠ 0xFFFF ∧
    State.reset.env = [] ∧
    scripted.env = { answer := some 0xAB#8, schedule := some 100#32, actions := [.raiseInterrupt 4] } :: [] := by decide

theorem test_witness_environment_turn :
    (scripted.tick 4).irqFlags = 0x10#5 ∧ (scripted.memRead 0xC000#16).1 = 0xAB#8 := by decide

theorem test_witness_cycle_table :
    Safe atTheTop ∧ atTheTop.interruptCheck.halted = false ∧
    atTheTop.interruptCheck.answeredBytes = [0xC3#8, 0x50#8, 0x01#8] := by decide

theorem test_witness_dispatch :
    State.reset.sp - 1 ≠ ifAddr ∧ State.reset.sp - 2 ≠ ifAddr ∧ State.reset.sp - 1 ≠ ieAddr ∧ State.reset.sp - 2 ≠ ieAddr ∧
    Quiet 3 State.reset.env := by decide

/-- Sources 2 and 4 pending, in the order `order`, with the two enables given. -/
def pending (order : EiDispatchOrder) (ime imeNext : Bool) : State :=
  { State.reset with
    params := { Config.defaultParams with eiDispatchOrder := order }
    ime := ime
    imeNext := imeNext
    irqEnable := 0x14#5
    irqFlags := 0x1F#5 }

theorem test_witness_lowest_pending :
    (pending .doc false true).imeNext = true ∧ (pending .late true true).ime = true ∧ (pending .late false true).ime = false ∧
    ∀ order, ((pending order true true).irqEnable &&& (pending order true true).irqFlags).getLsbD (2 : Fin 5).val = true ∧
      ∀ j < (2 : Fin 5).val, ((pending order true true).irqEnable &&& (pending order true true).irqFlags).getLsbD j = false := by
  refine ⟨by decide, by decide, by decide, fun order => ?_⟩
  cases order <;> decide

theorem test_witness_pending_after_reti :
    stepped [0xD9#8] (holding 0xCFFC#16 [0x34#8, 0x12#8] { pending .late false false with sp := 0xCFFC#16 })
      (fun t => (t.irqEnable &&& t.irqFlags).getLsbD 2 && !(t.irqEnable &&& t.irqFlags).getLsbD 1 &&
        !(t.irqEnable &&& t.irqFlags).getLsbD 0 && t.interruptCheck.pc == 0x0050#16) = true := by decide

theorem test_witness_ei_window :
    ∀ order, Safe (holding 0x0100#16 [0xFB#8] (pending order false false)) ∧
      (holding 0x0100#16 [0xFB#8] (pending order false false)).halted = false ∧
      (holding 0x0100#16 [0xFB#8] (pending order false false)).haltBugPending = false ∧
      (holding 0x0100#16 [0xFB#8] (pending order false false)).env = [] ∧
      (holding 0x0100#16 [0xFB#8] (pending order false false)).pc ≠ ifAddr ∧
      (holding 0x0100#16 [0xFB#8] (pending order false false)).pc ≠ ieAddr ∧
      (holding 0x0100#16 [0xFB#8] (pending order false false)).byteAt 0x0100#16 = 0xFB#8 ∧
      (holding 0x0100#16 [0xFB#8] (pending order false false)).params.eiDispatchOrder = order := by
  intro order
  cases order <;> decide

theorem test_witness_halted_step :
    Safe { scripted with halted := true } ∧ { scripted with halted := true }.halted = true ∧
    { scripted with halted := true }.irqEnable &&& { scripted with halted := true }.irqFlags = 0#5 ∧
    { State.reset with halted := true }.env = [] := by decide

theorem test_witness_halted_step_runs :
    step { scripted with halted := true } =
      .next { State.reset with halted := true, irqFlags := 0x10#5, timestamp := 100, elapsed := 100 } := rfl

theorem test_witness_halted_step_without_schedule :
    { scripted with halted := true, env := [{ answer := none, schedule := none, actions := [.armSpeedSwitch] }] }.env =
      { answer := none, schedule := none, actions := [.armSpeedSwitch] } :: [] ∧ Quiet 1 State.reset.env := by decide

theorem test_witness_run : ¬ Safe faulted ∧ runDone 0 State.reset = true := by decide

/-- V-B0-01 run for its 4 cycles of budget. -/
theorem test_run_stops_at_the_budget :
    run 5 4 State.reset =
      .next { State.reset with pc := 0x0101#16, timestamp := 4, elapsed := 4, opcodePc := 0x0100#16 } := rfl

end Sys2Proof.Machine
end

/-! PROOFS. The family 10_state.md: reset, the routing of a byte access, and the invariant that every step keeps. -/

namespace Sys2Proof.Machine

/-! ### Reset (10_state.md R58) -/

theorem inv_resetWith (p : Params) (ie iflag : BitVec 5) : (State.resetWith p ie iflag).Inv where
  memory := Memory.wf_nil
  haltBugOnlyWithParameter := nofun
  haltBugNotHalted := nofun
  imeImpliesNext := nofun
  faultAtOpcode := nofun
  elapsedWithinTimestamp := Nat.le_refl 0

/-- Settles O8: every clause is about a field whose reset value is fixed; `State.reset` is one of the reset states. -/
theorem invariantAtReset : Obligations.InvariantAtReset :=
  ⟨inv_resetWith Config.defaultParams 0#5 0#5, inv_resetWith⟩

/-- AF at reset is the word of the boot mode: its low byte is the packed view of four false flags. -/
theorem af_resetWith (p : Params) (ie iflag : BitVec 5) : (State.resetWith p ie iflag).af = p.bootMode.af := by
  change wordOf (hiByte p.bootMode.af) (Flags.pack ⟨false, false, false, false⟩) = p.bootMode.af
  cases p.bootMode <;> decide

theorem a_resetWith (p : Params) (ie iflag : BitVec 5) : (State.resetWith p ie iflag).a = hiByte p.bootMode.af := rfl

theorem wordOf_zero : wordOf 0x00#8 0x00#8 = 0x0000#16 := rfl

/-- Settles O11: AF and A follow the boot mode, every other row of R58 is the value `State.resetWith` writes. -/
theorem resetState : Obligations.ResetState := by
  intro p ie iflag
  have hmode (m : BootMode) (hm : p.bootMode = m) :
      (State.resetWith p ie iflag).af = m.af ∧ (State.resetWith p ie iflag).a = hiByte m.af := by
    subst hm
    exact ⟨af_resetWith p ie iflag, a_resetWith p ie iflag⟩
  exact ⟨rfl, rfl, hmode .plain, hmode .compat, rfl, wordOf_zero, wordOf_zero, wordOf_zero,
    rfl, rfl, rfl, rfl, rfl, rfl, rfl, rfl, rfl, rfl⟩

/-! ### Where a byte access goes (10_state.md R50; 20_memory.md R71, R72) -/

theorem eq_ifAddr_iff (a : Word) : a = ifAddr ↔ a.toNat = 0xFF0F := BitVec.toNat_inj.symm

theorem eq_ieAddr_iff (a : Word) : a = ieAddr ↔ a.toNat = 0xFFFF := BitVec.toNat_inj.symm

theorem State.memRead_ifAddr (s : State) : (s.memRead ifAddr).1 = s.irqRead s.irqFlags := rfl

theorem State.memRead_ieAddr (s : State) : (s.memRead ieAddr).1 = s.irqRead s.irqEnable := rfl

theorem State.memRead_bus (s : State) {a : Word} (hf : a ≠ ifAddr) (he : a ≠ ieAddr) :
    (s.memRead a).1 = s.busAnswer a := by
  simp [State.memRead, hf, he]

/-- An empty script leaves the byte the bus holds (log 1). -/
theorem State.busAnswer_nil {s : State} (a : Word) (h : s.env = []) : s.busAnswer a = s.byteAt a := by
  simp [State.busAnswer, h]

theorem State.busAnswer_cons {s : State} {ev : EnvEvent} {later : List EnvEvent} (a : Word) (h : s.env = ev :: later) :
    s.busAnswer a = ev.answer.getD (s.byteAt a) := by
  simp [State.busAnswer, h]

/-- Settles O52: the three routes of a read, then the frame of a read and of a write. -/
theorem memoryAccessRouting : Obligations.MemoryAccessRouting := by
  intro addr v s
  simp only [ne_eq, ← eq_ifAddr_iff, ← eq_ieAddr_iff]
  refine ⟨?atIf, ?atIe, ?bus, within_memRead s addr, stored_memWrite s addr v, within_memWrite s addr v, ?noBusWrite⟩
  case atIf =>
    rintro rfl
    exact s.memRead_ifAddr
  case atIe =>
    rintro rfl
    exact s.memRead_ieAddr
  case bus =>
    intro hf he
    rw [s.memRead_bus hf he]
    exact ⟨State.busAnswer_nil addr, fun _ _ => State.busAnswer_cons addr⟩
  case noBusWrite =>
    intro h
    rw [State.memWrite_mem, if_pos h]

/-! ### What the rows and the fetch keep -/

theorem keeps_switchSpeed (s : State) : Keeps 0 s s.switchSpeed :=
  ⟨id, rfl, rfl, rfl, rfl, id, 0, Nat.le_refl 0, rfl, rfl⟩

theorem keeps_runJr (s : State) (e8 : Byte) : Keeps 4 s (runJr e8 s) := (keeps_internal s).trans (keeps_setPc _ _)

theorem keeps_runJp (s : State) (n16 : Word) : Keeps 4 s (runJp n16 s) := (keeps_internal s).trans (keeps_setPc _ _)

theorem keeps_runCall (s : State) (target : Word) : Keeps 12 s (runCall target s) :=
  (keeps_internal s).trans ((keeps_push16 _ _).trans (keeps_setPc _ _))

theorem keeps_runBit (s : State) (b : Field3) (o : Operand8) : Keeps 4 s (runBit b o s) :=
  (keeps_readOperand8 s o).trans (keeps_applyFlags _ _)

theorem keeps_runLd (s : State) (dst src : Operand8) : Keeps 8 s (runLd dst src s) :=
  (keeps_readOperand8 s src).trans (keeps_writeOperand8 _ dst _)

theorem keeps_loadA (s : State) (a : Word) : Keeps 4 s (loadA a s) := (keeps_memRead s a).trans (keeps_setReg8 _ .a _)

/-- A conditional row does one of two things, each of which keeps it all. -/
theorem Keeps.ite {n : Nat} {s t u : State} (c : Bool) (ht : Keeps n s t) (hu : Keeps n s u) :
    Keeps n s (if c then t else u) := by
  cases c
  · exact hu
  · exact ht

theorem exec_cbInstr_keeps (op2 : Byte) (s : State) : ∃ t, exec (cbInstr op2) s = .next t ∧ Keeps 8 s t := by
  rw [cbInstr_eq]
  cases opBlock op2 with
  | f0 => exact ⟨_, exec_instrRot _ _ s, keeps_modifyOperand8 s _ _⟩
  | f1 => exact ⟨_, exec_instrBit _ _ s, (keeps_runBit s _ _).mono (by decide)⟩
  | f2 => exact ⟨_, exec_instrRes _ _ s, keeps_modifyOperand8 s _ _⟩
  | f3 => exact ⟨_, exec_instrSet _ _ s, keeps_modifyOperand8 s _ _⟩

/-- The opcode fetch ends a pending HALT bug (60_exceptions.md R444) and keeps the rest. -/
theorem keeps_fetchOpcode (s : State) :
    Keeps 4 (s.setHaltBugPending (s.haltBugPending && !s.params.haltBug)) s.fetchOpcode.2 where
  memory := by simp
  haltBugPending := by rw [State.fetchOpcode_eq]; rfl
  halted := s.fetchOpcode_state_halted
  fault := s.fetchOpcode_state_fault
  params := s.fetchOpcode_state_params
  ime := by simp
  clock := ⟨_, scaledTicks_le s.doubleSpeed 4, s.fetchOpcode_state_timestamp, s.fetchOpcode_state_elapsed⟩

theorem keeps_fetch16 (s : State) : Keeps 8 s s.fetch16.2 := (keeps_fetch8 s).trans (keeps_fetch8 _)

theorem keeps_fetchInstr (s : State) :
    Keeps 12 (s.setHaltBugPending (s.haltBugPending && !s.params.haltBug)) s.fetchInstr.2 := by
  have hop := keeps_fetchOpcode s
  dsimp only [State.fetchInstr]
  cases primaryRow s.fetchOpcode.1 with
  | plain i => exact hop.mono (by decide)
  | skipping i => exact hop.mono (by decide)
  | imm8 f => exact (hop.trans (keeps_fetch8 _)).mono (by decide)
  | imm16 f => exact hop.trans (keeps_fetch16 _)
  | cbEscape => exact (hop.trans (keeps_fetch8 _)).mono (by decide)

theorem keeps_environment (s : State) : Keeps 0 s s.environment where
  memory := by simp
  haltBugPending := s.environment_haltBugPending
  halted := s.environment_halted
  fault := s.environment_fault
  params := s.environment_params
  ime := by simp
  clock := ⟨0, Nat.le_refl 0, s.environment_timestamp, s.environment_elapsed⟩

theorem keeps_spend (s : State) (n : Nat) : Keeps n s (s.spend n) :=
  ⟨id, rfl, rfl, rfl, rfl, id, n, Nat.le_refl n, rfl, rfl⟩

theorem keeps_schedulerAnswer (s : State) : Keeps 0 s s.schedulerAnswer.2 := by
  unfold State.schedulerAnswer
  split
  · exact keeps_refl s
  · exact ⟨id, rfl, rfl, rfl, rfl, id, 0, Nat.le_refl 0, rfl, rfl⟩

/-- A halted fast-forward spends at most what is left of the budget (60_exceptions.md R443). -/
theorem keeps_fastForward (budget : Nat) (s : State) : Keeps (budget - s.elapsed) s (s.fastForward budget) :=
  ((keeps_schedulerAnswer s).trans ((keeps_spend _ _).trans (keeps_environment _))).mono (by simp)

/-! ### What a row can answer -/

/-- Everything a row of the opcode table can leave of `s`: a state that keeps all of `Keeps`, or the one mode change that
HALT (42_block1.md R253) or a fatal condition (60_exceptions.md R400, R402, R403) makes. -/
inductive Answer (s : State) : State → Prop where
  | keeps {t : State} (h : Keeps 20 s t) : Answer s t
  | halts : Answer s (s.setHalted true)
  | haltBug (hp : s.params.haltBug = true) : Answer s (s.setHaltBugPending true)
  | raises {k : Fault} (hk : k.Admitted) (hpc : k.pc = s.opcodePc) : Answer s (s.raiseFatal k)

/-- The row answers a next state, one of the states of `Answer`. -/
def Answers (i : Instr) (s : State) : Prop := ∃ t, exec i s = .next t ∧ Answer s t

theorem Answers.ofKeeps {i : Instr} {s t : State} {n : Nat} (he : exec i s = .next t) (h : Keeps n s t)
    (hn : n ≤ 20 := by decide) : Answers i s :=
  ⟨t, he, .keeps (h.mono hn)⟩

theorem answer_runHalt (s : State) : Answer s (runHalt s) := by
  unfold runHalt
  split_ifs with h
  · simp only [Bool.and_eq_true] at h
    exact .haltBug h.1.1
  · exact .halts

theorem answer_runStop (s : State) : Answer s (runStop s) := by
  unfold runStop
  split_ifs
  · exact .keeps (((keeps_switchSpeed s).trans (keeps_setPc _ _)).mono (by decide))
  · exact .raises trivial rfl

/-- Each row answers a next state, and only HALT, STOP and the ILLEGAL rows change a mode. -/
theorem answers_of_row (i : Instr) (s : State) : Answers i s := by
  induction i using Instr.byFamily with
  | ldR16N16Row p n16 => exact .ofKeeps (exec_instrLdR16N16 p n16 s) (keeps_setR16 s p n16)
  | ldAtR16memARow m =>
    exact .ofKeeps (exec_instrLdAtR16memA m s) ((keeps_memWrite s _ _).trans (keeps_r16memPost _ m))
  | ldAAtR16memRow m =>
    exact .ofKeeps (exec_instrLdAAtR16mem m s) ((keeps_loadA s (s.r16memAddr m)).trans (keeps_r16memPost _ m))
  | incR16Row p => exact .ofKeeps (exec_instrIncR16 p s) ((keeps_internal s).trans (keeps_setR16 _ p _))
  | decR16Row p => exact .ofKeeps (exec_instrDecR16 p s) ((keeps_internal s).trans (keeps_setR16 _ p _))
  | addHlRow p =>
    exact .ofKeeps (exec_instrAddHl p s)
      ((keeps_internal s).trans ((keeps_setR16 _ .hl _).trans (keeps_applyFlags _ _)))
  | inc8Row o => exact .ofKeeps (exec_instrInc8 o s) (keeps_modifyOperand8 s o _)
  | dec8Row o => exact .ofKeeps (exec_instrDec8 o s) (keeps_modifyOperand8 s o _)
  | ldN8Row o n8 => exact .ofKeeps (exec_instrLdN8 o n8 s) (keeps_writeOperand8 s o n8)
  | rotARow op => exact .ofKeeps (exec_instrRotA op s) (keeps_modifyOperand8 s _ _)
  | jrCcRow cc e8 =>
    exact .ofKeeps (exec_instrJrCc cc e8 s) (.ite _ (keeps_runJr s e8) ((keeps_refl s).mono (by decide)))
  | ldRRRow r r' => exact .ofKeeps (exec_instrLdRR r r' s) (keeps_runLd s _ _)
  | ldRAtHlRow r => exact .ofKeeps (exec_instrLdRAtHl r s) (keeps_runLd s _ _)
  | ldAtHlRRow r => exact .ofKeeps (exec_instrLdAtHlR r s) (keeps_runLd s _ _)
  | aluRow op o => exact .ofKeeps (exec_instrAlu op o s) ((keeps_readOperand8 s o).trans (keeps_aluA _ op _))
  | aluN8Row op n8 => exact .ofKeeps (exec_instrAluN8 op n8 s) (keeps_aluA s op n8)
  | retCcRow cc =>
    exact .ofKeeps (exec_instrRetCc cc s)
      ((keeps_internal s).trans (.ite _ (keeps_returnFromCall _) ((keeps_refl _).mono (by decide))))
  | jpCcRow cc n16 =>
    exact .ofKeeps (exec_instrJpCc cc n16 s) (.ite _ (keeps_runJp s n16) ((keeps_refl s).mono (by decide)))
  | callCcRow cc n16 =>
    exact .ofKeeps (exec_instrCallCc cc n16 s) (.ite _ (keeps_runCall s n16) ((keeps_refl s).mono (by decide)))
  | rstRow y => exact .ofKeeps (exec_instrRst y s) (keeps_runCall s _)
  | popRow p => exact .ofKeeps (exec_instrPop p s) ((keeps_pop16 s).trans (keeps_setR16stk _ p _))
  | pushRow p => exact .ofKeeps (exec_instrPush p s) ((keeps_internal s).trans (keeps_push16 _ _))
  | illegalRow k => exact ⟨_, exec_instrIllegal k s, .raises ⟨k, rfl⟩ rfl⟩
  | rotRow op o => exact .ofKeeps (exec_instrRot op o s) (keeps_modifyOperand8 s o _)
  | bitRow b o => exact .ofKeeps (exec_instrBit b o s) (keeps_runBit s b o)
  | resRow b o => exact .ofKeeps (exec_instrRes b o s) (keeps_modifyOperand8 s o _)
  | setRow b o => exact .ofKeeps (exec_instrSet b o s) (keeps_modifyOperand8 s o _)
  | nopRow => exact .ofKeeps (exec_nop s) (keeps_refl s)
  | ldAtN16SpRow n16 => exact .ofKeeps (exec_ldAtN16Sp n16 s) ((keeps_memWrite s _ _).trans (keeps_memWrite _ _ _))
  | stopRow => exact ⟨_, exec_stop s, answer_runStop s⟩
  | jrE8Row e8 => exact .ofKeeps (exec_jrE8 e8 s) (keeps_runJr s e8)
  | daaRow => exact .ofKeeps (exec_daa s) (keeps_modifyOperand8 s _ _)
  | cplRow => exact .ofKeeps (exec_cpl s) ((keeps_setReg8 s .a _).trans (keeps_applyFlags _ _))
  | scfRow => exact .ofKeeps (exec_scf s) (keeps_applyFlags s _)
  | ccfRow => exact .ofKeeps (exec_ccf s) (keeps_applyFlags s _)
  | jpN16Row n16 => exact .ofKeeps (exec_jpN16 n16 s) (keeps_runJp s n16)
  | retRow => exact .ofKeeps (exec_ret s) (keeps_returnFromCall s)
  | prefixCbRow =>
    obtain ⟨t, he, hk⟩ := exec_cbInstr_keeps s.fetch8.1 s.fetch8.2
    exact .ofKeeps ((exec_prefixCb s).trans he) ((keeps_fetch8 s).trans hk)
  | callN16Row n16 => exact .ofKeeps (exec_callN16 n16 s) (keeps_runCall s n16)
  | retiRow =>
    exact .ofKeeps (exec_reti s) ((keeps_returnFromCall s).trans (keeps_setIme _ fun _ _ => rfl))
  | ldhAtN8ARow n8 => exact .ofKeeps (exec_ldhAtN8A n8 s) (keeps_memWrite s _ _)
  | ldhAtCARow => exact .ofKeeps (exec_ldhAtCA s) (keeps_memWrite s _ _)
  | addSpE8Row e8 =>
    exact .ofKeeps (exec_addSpE8 e8 s)
      ((keeps_internal s).trans ((keeps_internal _).trans ((keeps_setSp _ _).trans (keeps_applyFlags _ _))))
  | jpHlRow => exact .ofKeeps (exec_jpHl s) (keeps_setPc s _)
  | ldAtN16ARow n16 => exact .ofKeeps (exec_ldAtN16A n16 s) (keeps_memWrite s _ _)
  | ldhAAtN8Row n8 => exact .ofKeeps (exec_ldhAAtN8 n8 s) (keeps_loadA s _)
  | ldhAAtCRow => exact .ofKeeps (exec_ldhAAtC s) (keeps_loadA s _)
  | diRow => exact .ofKeeps (exec_di s) (keeps_setIme s nofun)
  | ldHlSpE8Row e8 =>
    exact .ofKeeps (exec_ldHlSpE8 e8 s)
      ((keeps_internal s).trans ((keeps_setR16 _ .hl _).trans (keeps_applyFlags _ _)))
  | ldSpHlRow => exact .ofKeeps (exec_ldSpHl s) ((keeps_internal s).trans (keeps_setSp _ _))
  | ldAAtN16Row n16 => exact .ofKeeps (exec_ldAAtN16 n16 s) (keeps_loadA s n16)
  | eiRow => exact .ofKeeps (exec_ei s) (keeps_setIme s fun _ _ => rfl)
  | haltRow => exact ⟨_, exec_halt s, answer_runHalt s⟩

/-! ### The invariant under each piece of a step -/

theorem State.Inv.ofKeeps {n : Nat} {s t : State} (h : s.Inv) (hs : Safe s) (k : Keeps n s t) : t.Inv where
  memory := k.memory h.memory
  haltBugOnlyWithParameter := by rw [k.haltBugPending, k.params]; exact h.haltBugOnlyWithParameter
  haltBugNotHalted := by rw [k.haltBugPending, k.halted]; exact h.haltBugNotHalted
  imeImpliesNext := k.ime h.imeImpliesNext
  faultAtOpcode := fun f hf => by simp [k.fault, hs] at hf
  elapsedWithinTimestamp := by
    obtain ⟨d, -, ht, he⟩ := k.clock
    have := h.elapsedWithinTimestamp
    omega

theorem State.Inv.setHalted {s : State} {v : Bool} (h : s.Inv) (hs : Safe s)
    (hv : s.haltBugPending = true → v = false) : (s.setHalted v).Inv :=
  { h with
    haltBugNotHalted := hv
    faultAtOpcode := fun f hf => by simp [hs] at hf }

theorem State.Inv.setHaltBugPending {s : State} {v : Bool} (h : s.Inv)
    (hv : v = true → s.params.haltBug = true ∧ s.halted = false) : (s.setHaltBugPending v).Inv :=
  { h with
    haltBugOnlyWithParameter := fun e => (hv e).1
    haltBugNotHalted := fun e => (hv e).2 }

/-- The raising step leaves PC at the opcode, with the core not halted (60_exceptions.md R400, R435). -/
theorem State.Inv.raiseFatal {s : State} {k : Fault} (h : s.Inv) (hr : s.halted = false) (hk : k.Admitted)
    (hpc : k.pc = s.opcodePc) : (s.raiseFatal k).Inv :=
  { h with
    faultAtOpcode := by
      rintro f ⟨⟩
      exact ⟨hk, rfl, hpc, hr⟩ }

/-- A row run by a core that is not halted and has no HALT bug pending keeps the invariant. -/
theorem State.Inv.ofAnswer {s t : State} (h : s.Inv) (hs : Safe s) (hr : s.halted = false)
    (hb : s.haltBugPending = false) (ht : Answer s t) : t.Inv := by
  cases ht with
  | keeps hk => exact h.ofKeeps hs hk
  | halts => exact h.setHalted hs (by simp [hb])
  | haltBug hp => exact h.setHaltBugPending fun _ => ⟨hp, hr⟩
  | raises hk hpc => exact h.raiseFatal hr hk hpc

/-- The interrupt check wakes the core or leaves it as it is, then dispatches or copies `ime_next` (R421 to R424). -/
theorem State.Inv.interruptCheck {s : State} (h : s.Inv) (hs : Safe s) :
    s.interruptCheck.Inv ∧ Safe s.interruptCheck := by
  obtain ⟨-, i, hi⟩ | hi := s.interruptCheck_cases
  · have hk := keeps_dispatchInterrupt (s.setHalted false) i
    rw [hi]
    exact ⟨(h.setHalted hs fun _ => rfl).ofKeeps hs hk, hk.fault.trans hs⟩
  · have hk : Keeps 0 s (s.setIme s.imeNext s.imeNext) := keeps_setIme s fun _ => id
    have hv : s.haltBugPending = true → (s.halted && s.activeIrqs == 0#5) = false := fun hb => by
      simp [h.haltBugNotHalted hb]
    rw [hi]
    exact ⟨(h.ofKeeps hs hk).setHalted hs hv, hs⟩

/-- One instruction: the opcode fetch ends the HALT bug, so the row finds none pending. -/
theorem State.Inv.fetchDecodeExecute {s t : State} (h : s.Inv) (hs : Safe s) (hr : s.halted = false)
    (ht : s.fetchDecodeExecute = .next t) : t.Inv := by
  have hover : (s.haltBugPending && !s.params.haltBug) = false := by
    cases hb : s.haltBugPending with
    | false => rfl
    | true => simp [h.haltBugOnlyWithParameter hb]
  have hk := keeps_fetchInstr s
  rw [hover] at hk
  obtain ⟨u, hu, ha⟩ := answers_of_row s.fetchInstr.1 s.fetchInstr.2
  obtain rfl : u = t := by simpa [State.fetchDecodeExecute, hu] using ht
  have hInv : s.fetchInstr.2.Inv := (h.setHaltBugPending (v := false) nofun).ofKeeps hs hk
  exact hInv.ofAnswer (hk.fault.trans hs) (hk.halted.trans hr) hk.haltBugPending ha

theorem State.Inv.loopIteration {budget : Nat} {s t : State} (h : s.Inv) (hs : Safe s)
    (ht : Machine.loopIteration budget s = .next t) : t.Inv := by
  obtain ⟨hInv, hSafe⟩ := h.interruptCheck hs
  unfold Machine.loopIteration at ht
  cases hr : s.interruptCheck.halted with
  | true =>
    obtain rfl : s.interruptCheck.fastForward budget = t := by simpa [hr] using ht
    exact hInv.ofKeeps hSafe (keeps_fastForward budget _)
  | false => exact hInv.fetchDecodeExecute hSafe hr (by simpa [hr] using ht)

/-- Settles O7: a faulted core takes no step; otherwise the step is one iteration of the run loop, and the interrupt check, the
fast-forward, the fetch and each row keep the invariant. -/
theorem stepKeepsInvariant : Obligations.StepKeepsInvariant := by
  intro s t h ht
  unfold step at ht
  cases hs : s.fault with
  | some k => simp [hs] at ht
  | none => exact h.loopIteration hs (by simpa [hs] using ht)

end Sys2Proof.Machine

/-! PROOFS. The family 30_encoding.md: the opcode maps invert the encoder. A byte is built from its fields (R102, R103), so
that a family of rows is found in the maps by its operands' indices and not byte by byte. -/

namespace Sys2Proof

/-! ### A byte from its fields (30_encoding.md R102, R103) -/

/-- The byte with `block` in bits 7..6, `y` in bits 5..3 and `z` in bits 2..0. -/
def opByte (block : BitVec 2) (y z : Field3) : Byte := block ++ BitVec.ofNat 3 y.toNat ++ BitVec.ofNat 3 z.toNat

theorem field3_ofNat_toNat (f : Field3) : field3 (BitVec.ofNat 3 f.toNat) = f := by cases f <;> rfl

@[simp] theorem opBlock_opByte (block : BitVec 2) (y z : Field3) : opBlock (opByte block y z) = field2 block := by
  have h : (opByte block y z).extractLsb' 6 2 = block :=
    (BitVec.extractLsb'_append_eq_of_le (by decide)).trans BitVec.extractLsb'_append_eq_left
  rw [opBlock, h]

@[simp] theorem opY_opByte (block : BitVec 2) (y z : Field3) : opY (opByte block y z) = y := by
  have h : (opByte block y z).extractLsb' 3 3 = BitVec.ofNat 3 y.toNat :=
    (BitVec.extractLsb'_append_eq_of_le (by decide)).trans BitVec.extractLsb'_append_eq_right
  rw [opY, h, field3_ofNat_toNat]

@[simp] theorem opZ_opByte (block : BitVec 2) (y z : Field3) : opZ (opByte block y z) = z := by
  have h : (opByte block y z).extractLsb' 0 3 = BitVec.ofNat 3 z.toNat := BitVec.extractLsb'_append_eq_right
  rw [opZ, h, field3_ofNat_toNat]

theorem r8Table_surjective : Function.Surjective r8Table
  | .reg .b => ⟨.f0, rfl⟩
  | .reg .c => ⟨.f1, rfl⟩
  | .reg .d => ⟨.f2, rfl⟩
  | .reg .e => ⟨.f3, rfl⟩
  | .reg .h => ⟨.f4, rfl⟩
  | .reg .l => ⟨.f5, rfl⟩
  | .atHl => ⟨.f6, rfl⟩
  | .reg .a => ⟨.f7, rfl⟩

theorem r8Table_f6 : r8Table .f6 = .atHl := rfl

theorem aluTable_surjective : Function.Surjective aluTable
  | .add => ⟨.f0, rfl⟩
  | .adc => ⟨.f1, rfl⟩
  | .sub => ⟨.f2, rfl⟩
  | .sbc => ⟨.f3, rfl⟩
  | .and => ⟨.f4, rfl⟩
  | .xor => ⟨.f5, rfl⟩
  | .or => ⟨.f6, rfl⟩
  | .cp => ⟨.f7, rfl⟩

theorem rotTable_surjective : Function.Surjective rotTable
  | .rlc => ⟨.f0, rfl⟩
  | .rrc => ⟨.f1, rfl⟩
  | .rl => ⟨.f2, rfl⟩
  | .rr => ⟨.f3, rfl⟩
  | .sla => ⟨.f4, rfl⟩
  | .sra => ⟨.f5, rfl⟩
  | .swap => ⟨.f6, rfl⟩
  | .srl => ⟨.f7, rfl⟩

/-! ### What the decoder answers, row by row of the opcode maps -/

section Rows
variable {op : Byte}

theorem decode_plain {i : Instr} (h : primaryRow op = .plain i) (rest : List Byte) :
    decode (op :: rest) = .instr i rest := by
  simp [decode, h]

theorem decode_skipping {i : Instr} (h : primaryRow op = .skipping i) (rest : List Byte) :
    decode (op :: rest) = .instr i rest.tail := by
  simp [decode, h]

theorem decode_imm8 {f : Byte → Instr} (h : primaryRow op = .imm8 f) (n8 : Byte) (rest : List Byte) :
    decode (op :: n8 :: rest) = .instr (f n8) rest := by
  simp [decode, h]

theorem decode_imm16 {f : Word → Instr} (h : primaryRow op = .imm16 f) (lo hi : Byte) (rest : List Byte) :
    decode (op :: lo :: hi :: rest) = .instr (f (wordOf hi lo)) rest := by
  simp [decode, h]

theorem decode_cbEscape (h : primaryRow op = .cbEscape) (op2 : Byte) (rest : List Byte) :
    decode (op :: op2 :: rest) = .instr (cbInstr op2) rest := by
  simp [decode, h]

/-! ### The round trip of each row -/

open Laws.RoundTrip (Statement)

theorem roundTrip_of_plain {i : Instr} (h : primaryRow op = .plain i) : Statement i := by
  intro _ rest
  rw [(row_plain h).1]
  exact decode_plain h rest

theorem roundTrip_of_imm8 {f : Byte → Instr} (h : primaryRow op = .imm8 f) (n8 : Byte) : Statement (f n8) := by
  intro _ rest
  rw [(row_imm8 op f h n8).1]
  exact decode_imm8 h n8 rest

theorem roundTrip_of_imm16 {f : Word → Instr} (h : primaryRow op = .imm16 f) (n16 : Word) : Statement (f n16) := by
  intro _ rest
  rw [(row_imm16 op f h n16).1]
  exact (decode_imm16 h _ _ rest).trans (by rw [Machine.wordOf_hiByte_loByte])

theorem roundTrip_cbInstr (op2 : Byte) : Statement (cbInstr op2) := by
  intro _ rest
  rw [encode_cbInstr]
  exact decode_cbEscape rfl op2 rest

end Rows

/-- Every instruction is found in the opcode maps at the byte its operands' fields make up. -/
theorem roundTrip (i : Instr) : Laws.RoundTrip.Statement i := by
  induction i using Instr.byFamily with
  | ldR16N16Row p n16 =>
    exact roundTrip_of_imm16 (op := BitVec.ofNat 8 (0x01 + 0x10 * p.index)) (by cases p <;> rfl) n16
  | ldAtR16memARow m => exact roundTrip_of_plain (op := BitVec.ofNat 8 (0x02 + 0x10 * m.index)) (by cases m <;> rfl)
  | ldAAtR16memRow m => exact roundTrip_of_plain (op := BitVec.ofNat 8 (0x0A + 0x10 * m.index)) (by cases m <;> rfl)
  | incR16Row p => exact roundTrip_of_plain (op := BitVec.ofNat 8 (0x03 + 0x10 * p.index)) (by cases p <;> rfl)
  | decR16Row p => exact roundTrip_of_plain (op := BitVec.ofNat 8 (0x0B + 0x10 * p.index)) (by cases p <;> rfl)
  | addHlRow p => exact roundTrip_of_plain (op := BitVec.ofNat 8 (0x09 + 0x10 * p.index)) (by cases p <;> rfl)
  | inc8Row o =>
    obtain ⟨y, rfl⟩ := r8Table_surjective o
    exact roundTrip_of_plain (op := opByte 0 y .f4) (by cases y <;> rfl)
  | dec8Row o =>
    obtain ⟨y, rfl⟩ := r8Table_surjective o
    exact roundTrip_of_plain (op := opByte 0 y .f5) (by cases y <;> rfl)
  | ldN8Row o n8 =>
    obtain ⟨y, rfl⟩ := r8Table_surjective o
    exact roundTrip_of_imm8 (op := opByte 0 y .f6) (by cases y <;> rfl) n8
  | rotARow op =>
    cases op
    exacts [Laws.RoundTrip.rlca, Laws.RoundTrip.rrca, Laws.RoundTrip.rla, Laws.RoundTrip.rra]
  | jrCcRow cc n8 => exact roundTrip_of_imm8 (op := BitVec.ofNat 8 (0x20 + 8 * cc.index)) (by cases cc <;> rfl) n8
  | ldRRRow r r' =>
    obtain ⟨y, hy⟩ := r8Table_surjective (.reg r)
    obtain ⟨z, hz⟩ := r8Table_surjective (.reg r')
    exact roundTrip_of_plain (op := opByte 1 y z) (by simp [primaryRow, block1Row, field2, hy, hz])
  | ldRAtHlRow r =>
    obtain ⟨y, hy⟩ := r8Table_surjective (.reg r)
    exact roundTrip_of_plain (op := opByte 1 y .f6) (by simp [primaryRow, block1Row, field2, hy, r8Table_f6])
  | ldAtHlRRow r =>
    obtain ⟨z, hz⟩ := r8Table_surjective (.reg r)
    exact roundTrip_of_plain (op := opByte 1 .f6 z) (by simp [primaryRow, block1Row, field2, hz, r8Table_f6])
  | aluRow op o =>
    obtain ⟨y, rfl⟩ := aluTable_surjective op
    obtain ⟨z, rfl⟩ := r8Table_surjective o
    exact roundTrip_of_plain (op := opByte 2 y z) (by cases y <;> cases z <;> rfl)
  | aluN8Row op n8 =>
    obtain ⟨y, rfl⟩ := aluTable_surjective op
    exact roundTrip_of_imm8 (op := opByte 3 y .f6) (by cases y <;> rfl) n8
  | retCcRow cc => exact roundTrip_of_plain (op := BitVec.ofNat 8 (0xC0 + 8 * cc.index)) (by cases cc <;> rfl)
  | jpCcRow cc n16 =>
    exact roundTrip_of_imm16 (op := BitVec.ofNat 8 (0xC2 + 8 * cc.index)) (by cases cc <;> rfl) n16
  | callCcRow cc n16 =>
    exact roundTrip_of_imm16 (op := BitVec.ofNat 8 (0xC4 + 8 * cc.index)) (by cases cc <;> rfl) n16
  | rstRow y => exact roundTrip_of_plain (op := opByte 3 y .f7) (by cases y <;> rfl)
  | popRow p => exact roundTrip_of_plain (op := BitVec.ofNat 8 (0xC1 + 0x10 * p.index)) (by cases p <;> rfl)
  | pushRow p => exact roundTrip_of_plain (op := BitVec.ofNat 8 (0xC5 + 0x10 * p.index)) (by cases p <;> rfl)
  | illegalRow k => exact roundTrip_of_plain (op := k.opcode) (by cases k <;> rfl)
  | rotRow op o =>
    obtain ⟨y, rfl⟩ := rotTable_surjective op
    obtain ⟨z, rfl⟩ := r8Table_surjective o
    simpa [Machine.cbInstr_eq, field2] using roundTrip_cbInstr (opByte 0 y z)
  | bitRow b o =>
    obtain ⟨z, rfl⟩ := r8Table_surjective o
    simpa [Machine.cbInstr_eq, field2] using roundTrip_cbInstr (opByte 1 b z)
  | resRow b o =>
    obtain ⟨z, rfl⟩ := r8Table_surjective o
    simpa [Machine.cbInstr_eq, field2] using roundTrip_cbInstr (opByte 2 b z)
  | setRow b o =>
    obtain ⟨z, rfl⟩ := r8Table_surjective o
    simpa [Machine.cbInstr_eq, field2] using roundTrip_cbInstr (opByte 3 b z)
  | nopRow => exact Laws.RoundTrip.nop
  | ldAtN16SpRow n16 => exact Laws.RoundTrip.ldAtN16Sp n16
  | stopRow => exact Laws.RoundTrip.stop
  | jrE8Row e8 => exact Laws.RoundTrip.jrE8 e8
  | daaRow => exact Laws.RoundTrip.daa
  | cplRow => exact Laws.RoundTrip.cpl
  | scfRow => exact Laws.RoundTrip.scf
  | ccfRow => exact Laws.RoundTrip.ccf
  | jpN16Row n16 => exact Laws.RoundTrip.jpN16 n16
  | retRow => exact Laws.RoundTrip.ret
  | prefixCbRow => exact Laws.RoundTrip.prefixCb
  | callN16Row n16 => exact Laws.RoundTrip.callN16 n16
  | retiRow => exact Laws.RoundTrip.reti
  | ldhAtN8ARow n8 => exact Laws.RoundTrip.ldhAtN8A n8
  | ldhAtCARow => exact Laws.RoundTrip.ldhAtCA
  | addSpE8Row e8 => exact Laws.RoundTrip.addSpE8 e8
  | jpHlRow => exact Laws.RoundTrip.jpHl
  | ldAtN16ARow n16 => exact Laws.RoundTrip.ldAtN16A n16
  | ldhAAtN8Row n8 => exact Laws.RoundTrip.ldhAAtN8 n8
  | ldhAAtCRow => exact Laws.RoundTrip.ldhAAtC
  | diRow => exact Laws.RoundTrip.di
  | ldHlSpE8Row e8 => exact Laws.RoundTrip.ldHlSpE8 e8
  | ldSpHlRow => exact Laws.RoundTrip.ldSpHl
  | ldAAtN16Row n16 => exact Laws.RoundTrip.ldAAtN16 n16
  | eiRow => exact Laws.RoundTrip.ei
  | haltRow => exact Laws.RoundTrip.halt

/-- Settles O2: each row of the opcode maps round-trips, and every complete instruction is a row's. -/
theorem decodeOfEncode : Obligations.DecodeOfEncode := fun i rest h => roundTrip i h rest

/-! ### Encoding what was decoded -/

/-- A complete instruction that was decoded is written as the bytes it was decoded from, but for the byte STOP skips. -/
theorem encode_append_of_decode {bytes rest : List Byte} {i : Instr} (h : decode bytes = .instr i rest)
    (hw : WellFormed i = true) (hs : i ≠ .stop) : encode i ++ rest = bytes := by
  cases bytes with
  | nil => cases h
  | cons op after =>
    cases hr : primaryRow op with
    | plain j =>
      obtain ⟨rfl, rfl⟩ : j = i ∧ after = rest := by simpa [decode, hr] using h
      simp [(row_plain hr).1]
    | skipping j =>
      obtain ⟨rfl, -⟩ : j = i ∧ after.tail = rest := by simpa [decode, hr] using h
      exact absurd (row_skip hr).1 hs
    | imm8 f =>
      match after, h with
      | n8 :: after, h =>
        obtain ⟨rfl, rfl⟩ : f n8 = i ∧ after = rest := by simpa [decode_imm8 hr] using h
        simp [(row_imm8 op f hr n8).1]
      | [], h => simp [decode, hr] at h
    | imm16 f =>
      match after, h with
      | lo :: hi :: after, h =>
        obtain ⟨rfl, rfl⟩ : f (wordOf hi lo) = i ∧ after = rest := by simpa [decode_imm16 hr] using h
        simp [(row_imm16 op f hr _).1, Machine.loByte_wordOf, Machine.hiByte_wordOf]
      | [_], h => simp [decode, hr] at h
      | [], h => simp [decode, hr] at h
    | cbEscape =>
      match after, h with
      | op2 :: after, h =>
        obtain ⟨rfl, rfl⟩ : cbInstr op2 = i ∧ after = rest := by simpa [decode_cbEscape hr] using h
        simp [encode_cbInstr, row_cb hr]
      | [], h =>
        obtain ⟨rfl, -⟩ : Instr.prefixCb = i ∧ [] = rest := by simpa [decode, hr] using h
        exact absurd hw (by decide)

/-- Three bytes are enough for any row; STOP takes two of them. -/
theorem decode_of_three_bytes (b0 b1 b2 : Byte) (rest : List Byte) : ∃ i rest',
    decode (b0 :: b1 :: b2 :: rest) = .instr i rest' ∧ WellFormed i = true ∧ (i = .stop → rest' = b2 :: rest) := by
  cases hr : primaryRow b0 with
  | plain i =>
    obtain ⟨-, hw, hs⟩ := row_plain hr
    exact ⟨i, _, decode_plain hr _, hw, fun h => absurd h hs⟩
  | skipping i =>
    obtain ⟨rfl, -⟩ := row_skip hr
    exact ⟨.stop, _, decode_skipping hr _, rfl, fun _ => rfl⟩
  | imm8 f =>
    obtain ⟨-, hw, hs⟩ := row_imm8 b0 f hr b1
    exact ⟨f b1, _, decode_imm8 hr _ _, hw, fun h => absurd h hs⟩
  | imm16 f =>
    obtain ⟨-, hw, hs⟩ := row_imm16 b0 f hr (wordOf b2 b1)
    exact ⟨f (wordOf b2 b1), _, decode_imm16 hr _ _ _, hw, fun h => absurd h hs⟩
  | cbEscape =>
    obtain ⟨hw, hs⟩ := cb_wf b1
    exact ⟨cbInstr b1, _, decode_cbEscape hr _ _, hw, fun h => absurd h hs⟩

/-- Settles O3: the bytes are those of the row found, which gives the length too; STOP's length is its own case. -/
theorem decodeIsTotal : Obligations.DecodeIsTotal := by
  intro b0 b1 b2 rest
  obtain ⟨i, rest', hd, hw, hstop⟩ := decode_of_three_bytes b0 b1 b2 rest
  refine ⟨i, rest', hd, hw, ?_, encode_append_of_decode hd hw⟩
  by_cases hs : i = .stop
  · rw [hstop hs, hs]
    rfl
  · have := congrArg List.length (encode_append_of_decode hd hw hs)
    simp only [List.length_append, List.length_cons] at this
    rw [instrLength]
    omega

/-! ### The illegal bytes (30_encoding.md R130) -/

theorem encode_instrIllegal (k : IllegalByte) : encode (instrIllegal k) = [k.opcode] := by cases k <;> rfl

theorem wellFormed_instrIllegal (k : IllegalByte) : WellFormed (instrIllegal k) = true := by cases k <;> rfl

theorem instrIllegal_ne_stop (k : IllegalByte) : instrIllegal k ≠ .stop := by cases k <;> nofun

/-- A byte decodes to an ILLEGAL row exactly when it is the byte the encoder writes for that row. -/
theorem decode_eq_instrIllegal_iff (b : Byte) (rest : List Byte) (k : IllegalByte) :
    decode (b :: rest) = .instr (instrIllegal k) rest ↔ b = k.opcode := by
  constructor
  · intro h
    have h' := encode_append_of_decode h (wellFormed_instrIllegal k) (instrIllegal_ne_stop k)
    rw [encode_instrIllegal] at h'
    exact (List.cons.inj h').1.symm
  · rintro rfl
    simpa [encode_instrIllegal] using roundTrip (instrIllegal k) (wellFormed_instrIllegal k) rest

theorem exists_opcode_eq_iff (b : Byte) : (∃ k : IllegalByte, b = k.opcode) ↔
    b ∈ [0xD3#8, 0xDB#8, 0xDD#8, 0xE3#8, 0xE4#8, 0xEB#8, 0xEC#8, 0xED#8, 0xF4#8, 0xFC#8, 0xFD#8] := by
  constructor
  · rintro ⟨k, rfl⟩
    cases k <;> decide
  · intro h
    obtain ⟨k, -, hk⟩ := List.mem_map.mp
      (show b ∈ List.map IllegalByte.opcode [.d3, .db, .dd, .e3, .e4, .eb, .ec, .ed, .f4, .fc, .fd] from h)
    exact ⟨k, hk.symm⟩

/-- Settles O4: each ILLEGAL row has one byte, and the bytes of the 11 rows are the list of R130. -/
theorem illegalBytesExactly : Obligations.IllegalBytesExactly := by
  intro b rest
  simp only [decode_eq_instrIllegal_iff, exists_opcode_eq_iff]

/-- Settles O1: each conjunct is a closed run of the decoder. -/
theorem tableWordsDecode : Obligations.TableWordsDecode := by
  unfold Obligations.TableWordsDecode
  decide

end Sys2Proof

namespace Sys2Proof.Machine

/-- What a row can answer keeps the parameters, and one clock for `timestamp` and `elapsed`. -/
theorem Answer.params_and_clock {s t : State} (h : Answer s t) :
    t.params = s.params ∧ ∃ n ≤ 20, t.timestamp = s.timestamp + n ∧ t.elapsed = s.elapsed + n := by
  cases h with
  | keeps hk => exact ⟨hk.params, hk.clock⟩
  | halts => exact ⟨rfl, 0, by decide, rfl, rfl⟩
  | haltBug => exact ⟨rfl, 0, by decide, rfl, rfl⟩
  | raises => exact ⟨rfl, 0, by decide, rfl, rfl⟩

/-- Settles O10: `answers_of_row` gives the next state, and whatever a row can answer meets the three clauses. -/
theorem everyRowAnswersNext : Obligations.EveryRowAnswersNext := by
  intro i s
  obtain ⟨t, he, ha⟩ := answers_of_row i s
  exact ⟨t, he, ha.params_and_clock⟩

end Sys2Proof.Machine

/-! PROOFS. The family 40_alu.md: decimal adjust after an addition. The argument is about digits: the raw sum of two packed BCD
bytes is `16 * hi + lo`, where `hi` (at most 18) is the sum of the high digits and `lo` (at most 19) that of the low digits with
the carry-in; the decimal sum is `10 * hi + lo`. -/

namespace Sys2Proof.Machine

/-! ### The two steps of decimal adjust (40_alu.md R175) -/

theorem and_0F_toNat (a : Byte) : (a &&& 0x0F#8).toNat = a.toNat % 16 :=
  Nat.and_two_pow_sub_one_eq_mod a.toNat 4

theorem daaHigh_of_addition (a : Byte) (f : Flags) (hn : f.n = false) : daaHigh a f =
    (a + BitVec.ofNat 8 (if f.c = true ∨ 0x99 < a.toNat then 0x60 else 0), f.c || decide (0x99 < a.toNat)) := by
  by_cases h : f.c = true ∨ 0x99 < a.toNat
  · simp [daaHigh, hn, h]
  · obtain ⟨hc, ha⟩ := not_or.mp h
    simp [daaHigh, hn, hc, ha]

theorem daaLow_of_addition (a : Byte) (f : Flags) (hn : f.n = false) : daaLow a f =
    a + BitVec.ofNat 8 (if f.h = true ∨ 9 < a.toNat % 16 then 6 else 0) := by
  rw [daaLow, hn, and_0F_toNat]
  by_cases h : f.h = true ∨ 9 < a.toNat % 16 <;> simp [h]

/-- The first step leaves the low digit alone, so that both steps are decided on the byte `daa8` is given. -/
theorem daa8_toNat_of_addition (a : Byte) (f : Flags) (hn : f.n = false) : (daa8 a f).1.toNat =
    (a.toNat + (if f.c = true ∨ 0x99 < a.toNat then 0x60 else 0) + (if f.h = true ∨ 9 < a.toNat % 16 then 6 else 0)) % 256 := by
  have hdigit : (daaHigh a f).1.toNat % 16 = a.toNat % 16 := by
    rw [daaHigh_of_addition a f hn, BitVec.toNat_add, BitVec.toNat_ofNat]
    split_ifs <;> omega
  change (daaLow (daaHigh a f).1 f).toNat = _
  rw [daaLow_of_addition _ f hn, hdigit, daaHigh_of_addition a f hn]
  simp only [BitVec.toNat_add, BitVec.toNat_ofNat]
  omega

theorem daa8_update_of_addition (a : Byte) (f : Flags) (hn : f.n = false) : (daa8 a f).2 =
    { z := some (decide ((daa8 a f).1.toNat = 0))
      n := none
      h := some false
      c := some (f.c || decide (0x99 < a.toNat)) } := by
  rw [← byte_beq_zero, daa8, daaHigh_of_addition a f hn]

/-! ### Packed BCD -/

theorem bcdByte_toNat {n : Nat} (h : n < 100) : (bcdByte n).toNat = n / 10 * 16 + n % 10 := by
  rw [bcdByte, BitVec.toNat_ofNat]
  omega

/-- The two digits of a number modulo 100. -/
theorem bcdByte_mod_toNat (n : Nat) : (bcdByte (n % 100)).toNat = n / 10 % 10 * 16 + n % 10 := by
  rw [bcdByte_toNat (Nat.mod_lt _ (by decide)), Nat.mod_mul_right_div_self n 10 10, Nat.mod_mod_of_dvd n (by decide)]

theorem bcdByte_mod_toNat_eq_zero_iff (n : Nat) : (bcdByte (n % 100)).toNat = 0 ↔ n % 100 = 0 := by
  rw [bcdByte_mod_toNat]
  omega

/-- Decimal adjust of a raw sum of digits, given the H and C of the addition: the low digit is adjusted when `lo` carries into
the high digit, the high digit when the decimal sum reaches 100. -/
theorem daa8_digit_sums {hi lo : Nat} (f : Flags) (hhi : hi ≤ 18) (hlo : lo ≤ 19) (hn : f.n = false)
    (hh : f.h = decide (16 ≤ lo)) (hc : f.c = decide (256 ≤ 16 * hi + lo)) :
    daa8 (BitVec.ofNat 8 (16 * hi + lo)) f =
      (bcdByte ((10 * hi + lo) % 100),
        { z := some (decide ((10 * hi + lo) % 100 = 0))
          n := none
          h := some false
          c := some (decide (100 ≤ 10 * hi + lo)) }) := by
  have hraw : (BitVec.ofNat 8 (16 * hi + lo)).toNat = (16 * hi + lo) % 256 := BitVec.toNat_ofNat ..
  have hhigh : (f.c = true ∨ 0x99 < (16 * hi + lo) % 256) ↔ 100 ≤ 10 * hi + lo := by
    rw [hc, decide_eq_true_iff]
    omega
  have hlow : (f.h = true ∨ 9 < (16 * hi + lo) % 256 % 16) ↔ 10 ≤ lo := by
    rw [hh, decide_eq_true_iff]
    omega
  have hres : (daa8 (BitVec.ofNat 8 (16 * hi + lo)) f).1 = bcdByte ((10 * hi + lo) % 100) := by
    apply BitVec.eq_of_toNat_eq
    have htens : (10 * hi + lo) / 10 = hi + lo / 10 := by omega
    have hones : (10 * hi + lo) % 10 = lo % 10 := by omega
    rw [daa8_toNat_of_addition _ f hn, hraw, bcdByte_mod_toNat, htens, hones]
    simp only [hhigh, hlow]
    split_ifs <;> omega
  refine Prod.ext hres ?_
  rw [daa8_update_of_addition _ f hn, hres, hraw]
  simp only [bcdByte_mod_toNat_eq_zero_iff, ← hhigh, Bool.decide_or, Bool.decide_eq_true]

/-! ### DAA after ADC -/

theorem runDaa_a (s : State) : (runDaa s).a = (daa8 s.a s.flags).1 := rfl

theorem runDaa_flags (s : State) : (runDaa s).flags = (daa8 s.a s.flags).2.apply s.flags :=
  State.flags_modifyOperand8 s (.reg .a) daa8

/-- `ADC` of two packed BCD bytes: the raw sum of their digits, with N, H and C as decimal adjust reads them. -/
theorem runAluN8_adc_bcdByte {x y : Nat} (hx : x < 100) (hy : y < 100) (s : State) (ha : s.a = bcdByte x) :
    let hi := x / 10 + y / 10
    let lo := x % 10 + y % 10 + s.flags.c.toNat
    let t := runAluN8 .adc (bcdByte y) s
    t.a = BitVec.ofNat 8 (16 * hi + lo) ∧ t.flags.n = false ∧ t.flags.h = decide (16 ≤ lo) ∧
      t.flags.c = decide (256 ≤ 16 * hi + lo) := by
  intro hi lo t
  have hsum : x / 10 * 16 + x % 10 + (y / 10 * 16 + y % 10) + s.flags.c.toNat = 16 * hi + lo := by omega
  have hdigit : (x / 10 * 16 + x % 10) % 16 + (y / 10 * 16 + y % 10) % 16 + s.flags.c.toNat = lo := by omega
  have hflags : t.flags = _ := State.aluA_flags s .adc (bcdByte y)
  have hta : t.a = _ := State.aluA_a s .adc (bcdByte y)
  simp only [alu8, adc8_eq, ha, bcdByte_toNat hx, bcdByte_toNat hy, hsum, hdigit] at hflags hta
  exact ⟨hta, by rw [hflags]; rfl, by rw [hflags]; rfl, by rw [hflags]; rfl⟩

/-- Settles O32: ADC leaves the raw sum of the digits, with the H and C that decimal adjust needs to turn it into the decimal
sum. -/
theorem decimalAdjustAfterAddition : Obligations.DecimalAdjustAfterAddition := by
  intro x y s hx hy ha sum
  obtain ⟨hta, hn, hh, hc⟩ := runAluN8_adc_bcdByte hx hy s ha
  have hcin : s.flags.c.toNat ≤ 1 := Bool.toNat_le _
  have hsum : 10 * (x / 10 + y / 10) + (x % 10 + y % 10 + s.flags.c.toNat) = sum := by omega
  have hdaa := daa8_digit_sums _ (by omega) (by omega) hn hh hc
  rw [← hta, hsum] at hdaa
  refine ⟨_, _, exec_instrAluN8 .adc (bcdByte y) s, exec_daa _, ?_, ?_⟩
  · rw [runDaa_a, hdaa]
  · rw [runDaa_flags, hdaa, FlagUpdate.apply, hn]
    rfl

end Sys2Proof.Machine

/-! PROOFS. The family 41_block0.md: the rows 0x00 to 0x3F. A row's bytes come from its place in the opcode map, its frame from the
frames of the pieces its meaning is built of, its values from the number laws of the ALU helpers. -/

namespace Sys2Proof.Machine

/-! ### The bytes and cycles of a row, from its place in the opcode map (30_encoding.md R100, R120) -/

theorem coded_of_encode {i : Instr} {bytes : List Byte} {beyond : Nat} (h : encode i = bytes) (hs : i ≠ .stop) :
    Coded i bytes beyond (4 * bytes.length + beyond) :=
  ⟨h, by rw [bytesRead, if_neg hs, instrLength, h]⟩

theorem coded_of_plain {op : Byte} {i : Instr} {beyond : Nat} (h : primaryRow op = .plain i) :
    Coded i [op] beyond (4 + beyond) :=
  have ⟨he, _, hs⟩ := row_plain h
  coded_of_encode he hs

theorem coded_of_imm8 {op : Byte} {f : Byte → Instr} {beyond : Nat} (h : primaryRow op = .imm8 f) (n8 : Byte) :
    Coded (f n8) [op, n8] beyond (8 + beyond) :=
  have ⟨he, _, hs⟩ := row_imm8 op f h n8
  coded_of_encode he hs

theorem coded_of_imm16 {op : Byte} {f : Word → Instr} {beyond : Nat} (h : primaryRow op = .imm16 f) (n16 : Word) :
    Coded (f n16) [op, loByte n16, hiByte n16] beyond (12 + beyond) :=
  have ⟨he, _, hs⟩ := row_imm16 op f h n16
  coded_of_encode he hs

/-! ### Frames of two pieces -/

theorem Within.thenFlags {f : Footprint} {s t : State} (h : Within f s t) (u : FlagUpdate) (hc : f.cycles % 4 = 0 := by rfl) :
    Within { f with flags := true } s (t.applyFlags u) :=
  (h.seq (within_applyFlags t u) hc rfl).mono (by constructor <;> simp [Footprint.seq])

/-- An internal step before a piece that spends no time. -/
theorem Within.afterInternal {f : Footprint} {s t : State} (h : Within f s.internal t) (hc : f.cycles = 0 := by rfl) :
    Within { f with cycles := 4 } s t :=
  ((within_internal s).seq h rfl (by rw [hc])).mono (by constructor <;> simp [Footprint.seq, hc])

/-- `Stored.seq` with the turns counted. -/
theorem Stored.through {x : Word} {v : Byte} {m n : Nat} {f : Footprint} {s t u : State} (h : Stored x v m s t)
    (ht : t.env = s.env.drop m) (hw : Within f t u) (hx : x ∉ f.stores) (hn : m + f.cycles / 4 = n) : Stored x v n s u :=
  hn ▸ h.seq ht hw hx

/-! ### NOP and the immediate loads (R200, R201, R215, R216) -/

/-- Settles O13: the meaning of NOP is the identity. -/
theorem noOperation : Obligations.NoOperation := fun s => ⟨coded_of_plain rfl, exec_nop s⟩

theorem written_writeOperand8 (s : State) (o : Operand8) (v : Byte) : Written o v 1 s (s.writeOperand8 o v) := by
  cases o with
  | reg r => exact s.reg8_setReg8_same r v
  | atHl => exact stored_memWrite s s.hl v

theorem primaryRow_ldN8 (o : Operand8) : primaryRow (BitVec.ofNat 8 (0x06 + 8 * o.index)) = .imm8 (instrLdN8 o) := by
  cases o with
  | reg r => cases r <;> rfl
  | atHl => rfl

/-- Settles O15: the meaning is one write of the operand. -/
theorem immediateByteLoads : Obligations.ImmediateByteLoads := fun o n8 s =>
  ⟨coded_of_imm8 (primaryRow_ldN8 o) n8, _, exec_instrLdN8 o n8 s, written_writeOperand8 s o n8, within_writeOperand8 s o n8⟩

theorem primaryRow_ldR16N16 (p : R16) : primaryRow (BitVec.ofNat 8 (0x01 + 16 * p.index)) = .imm16 (instrLdR16N16 p) := by
  cases p <;> rfl

/-- Settles O17: the meaning is one write of the pair. -/
theorem pairImmediateLoads : Obligations.PairImmediateLoads := fun p n16 s =>
  ⟨coded_of_imm16 (primaryRow_ldR16N16 p) n16, _, exec_instrLdR16N16 p n16 s, s.r16_setR16 p n16, within_setR16 s p n16⟩

/-! ### Loads and stores of A through pairs, and of SP (R202 to R207, R225) -/

theorem toNat_sub_one (v : Word) : (v - 1#16).toNat = (v.toNat + 65535) % 65536 := by bv_omega

/-- The step of HL after the access (30_encoding.md R106), as a number. -/
theorem State.hl_r16memPost_toNat (s : State) (m : R16mem) :
    (m = .hlInc → (s.r16memPost m).hl.toNat = (s.hl.toNat + 1) % 65536) ∧
    (m = .hlDec → (s.r16memPost m).hl.toNat = (s.hl.toNat + 65535) % 65536) := by
  rw [State.hl_r16memPost]
  constructor
  · rintro rfl
    exact BitVec.toNat_add ..
  · rintro rfl
    exact toNat_sub_one s.hl

/-- Settles O18: the store leaves A, and the step of HL after it writes H and L only. -/
theorem storesOfAThroughPairs : Obligations.StoresOfAThroughPairs := by
  intro m s
  have hrow : primaryRow (BitVec.ofNat 8 (0x02 + 16 * m.index)) = .plain (instrLdAtR16memA m) := by cases m <;> rfl
  have hframe := within_memWrite s (s.r16memAddr m) s.a
  have hpost := within_r16memPost (s.memWrite (s.r16memAddr m) s.a) m
  obtain ⟨hinc, hdec⟩ := State.hl_r16memPost_toNat (s.memWrite (s.r16memAddr m) s.a) m
  rw [State.hl_memWrite] at hinc hdec
  have hstored := (stored_memWrite s (s.r16memAddr m) s.a).through (n := 1) (State.memWrite_env ..) hpost (by simp) (by simp)
  exact ⟨coded_of_plain hrow, ⟨rfl, rfl, rfl, rfl⟩, _, exec_instrLdAtR16memA m s, hstored, hinc, hdec,
    (hframe.seq hpost (by simp) (by simp)).mono (by constructor <;> simp [Footprint.seq])⟩

/-- Settles O19: the read answers before HL steps, and the step leaves A. -/
theorem loadsOfAThroughPairs : Obligations.LoadsOfAThroughPairs := by
  intro m s
  have hrow : primaryRow (BitVec.ofNat 8 (0x0A + 16 * m.index)) = .plain (instrLdAAtR16mem m) := by cases m <;> rfl
  let r := s.memRead (s.r16memAddr m)
  have hload : Within _ s (r.2.setReg8 .a r.1) := (within_memRead s (s.r16memAddr m)).seq (within_setA r.2 r.1) rfl rfl
  obtain ⟨hinc, hdec⟩ := State.hl_r16memPost_toNat (r.2.setReg8 .a r.1) m
  rw [State.hl_setReg8_a, State.memRead_state_hl] at hinc hdec
  exact ⟨coded_of_plain hrow, _, exec_instrLdAAtR16mem m s, State.r16memPost_a .., hinc, hdec,
    (hload.seq (within_r16memPost _ m) rfl rfl).mono (by constructor <;> simp [Footprint.seq])⟩

theorem runLdAtN16Sp_eq (n16 : Word) (s : State) :
    runLdAtN16Sp n16 s = (s.memWrite n16 (loByte s.sp)).memWrite (n16 + 1) (hiByte s.sp) := by
  rw [runLdAtN16Sp, State.memWrite_sp]

/-- Settles O20: two stores, at two addresses that differ. -/
theorem storeOfStackPointer : Obligations.StoreOfStackPointer := by
  intro n16 s
  have hne : n16 ∉ [n16 + 1] := by simp
  have hlow := stored_memWrite s n16 (loByte s.sp)
  have hhigh := stored_memWrite (s.memWrite n16 (loByte s.sp)) (n16 + 1) (hiByte s.sp)
  have hframe := within_memWrite (s.memWrite n16 (loByte s.sp)) (n16 + 1) (hiByte s.sp)
  refine ⟨coded_of_imm16 rfl n16, _, exec_ldAtN16Sp n16 s, ?_⟩
  rw [runLdAtN16Sp_eq]
  exact ⟨hlow.through (State.memWrite_env ..) hframe hne (by simp), hhigh.after (m := 1) (State.memWrite_env ..),
    (within_memWrite s n16 _).seq hframe (by simp) (by simp)⟩

/-! ### 16-bit arithmetic (R208 to R210) -/

theorem runIncR16_eq (p : R16) (s : State) : runIncR16 p s = s.internal.setR16 p (s.r16 p + 1#16) := by
  rw [runIncR16, State.internal_r16, inc16]

theorem runDecR16_eq (p : R16) (s : State) : runDecR16 p s = s.internal.setR16 p (s.r16 p - 1#16) := by
  rw [runDecR16, State.internal_r16, dec16]

/-- Settles O23: an internal step, then one write of the pair. -/
theorem pairIncrementDecrement : Obligations.PairIncrementDecrement := by
  intro p s
  have hinc : primaryRow (BitVec.ofNat 8 (0x03 + 16 * p.index)) = .plain (instrIncR16 p) := by cases p <;> rfl
  have hdec : primaryRow (BitVec.ofNat 8 (0x0B + 16 * p.index)) = .plain (instrDecR16 p) := by cases p <;> rfl
  refine ⟨coded_of_plain hinc, ⟨_, exec_instrIncR16 p s, ?_, (within_setR16 s.internal p _).afterInternal⟩,
    coded_of_plain hdec, _, exec_instrDecR16 p s, ?_, (within_setR16 s.internal p _).afterInternal⟩
  · rw [runIncR16_eq, State.r16_setR16]
    exact BitVec.toNat_add ..
  · rw [runDecR16_eq, State.r16_setR16, toNat_sub_one]

theorem runAddHl_eq (p : R16) (s : State) :
    runAddHl p s = (s.internal.setHl (s.hl + s.r16 p)).applyFlags (add16 s.hl (s.r16 p)).2 := by
  rw [runAddHl, State.hl_internal, State.internal_r16, add16_eq]

/-- Settles O24: an internal step, the write of HL, the flags of `add16_eq`. -/
theorem additionToHl : Obligations.AdditionToHl := by
  intro p s
  have hrow : primaryRow (BitVec.ofNat 8 (0x09 + 16 * p.index)) = .plain (instrAddHl p) := by cases p <;> rfl
  refine ⟨coded_of_plain hrow, _, exec_instrAddHl p s, ?_, ?_, ((within_setR16 s.internal .hl _).thenFlags _).afterInternal⟩
  · rw [runAddHl_eq, State.hl_applyFlags, State.hl_setHl, BitVec.toNat_add]
  · rw [runAddHl_eq, add16_eq, State.applyFlags_flags, State.setHl_flags, State.internal_flags]
    rfl

/-! ### INC and DEC of a byte (R211 to R214; 40_alu.md R151, R152) -/

theorem lowNibble_beq (v k : Byte) : (v &&& 0x0F#8 == k) = decide (v.toNat % 16 = k.toNat) := by
  rw [Bool.eq_iff_iff, beq_iff_eq, decide_eq_true_iff, BitVec.toNat_eq, and_0F_toNat]

theorem inc8_eq (v : Byte) : inc8 v =
    (BitVec.ofNat 8 (v.toNat + 1),
      { z := some (decide (v.toNat = 255)), n := some false, h := some (decide (v.toNat % 16 = 15)), c := none }) := by
  have hres : v + 1#8 = BitVec.ofNat 8 (v.toNat + 1) := BitVec.eq_of_toNat_eq (by simp)
  have hz : (v + 1#8 == 0#8) = decide (v.toNat = 255) := by
    rw [byte_beq_zero, decide_eq_decide]
    bv_omega
  rw [inc8, hz, hres, lowNibble_beq]
  rfl

theorem dec8_eq (v : Byte) : dec8 v =
    (BitVec.ofNat 8 (v.toNat + 255),
      { z := some (decide (v.toNat = 1)), n := some true, h := some (decide (v.toNat % 16 = 0)), c := none }) := by
  have hres : v - 1#8 = BitVec.ofNat 8 (v.toNat + 255) := by bv_omega
  have hz : (v - 1#8 == 0#8) = decide (v.toNat = 1) := by
    rw [byte_beq_zero, decide_eq_decide]
    bv_omega
  rw [dec8, hz, hres, lowNibble_beq]
  rfl

/-- A read-modify-write whose result and flag update are known. -/
theorem modifyOperand8_spec (s : State) (o : Operand8) {f : Byte → Flags → Byte × FlagUpdate} {res : Byte} {u : FlagUpdate}
    (h : f (s.readOperand8 o).1 s.flags = (res, u)) :
    Written o res 2 s (s.modifyOperand8 o f) ∧ (s.modifyOperand8 o f).flags = u.apply s.flags ∧
      Within { regs := o.regs, flags := true, stores := s.operandStores o, cycles := 2 * o.cycles } s
        (s.modifyOperand8 o f) := by
  have hw := written_modifyOperand8 s o f
  have hf := s.flags_modifyOperand8 o f
  rw [h] at hw hf
  exact ⟨hw, hf, within_modifyOperand8_double s o f⟩

theorem primaryRow_inc8 (o : Operand8) : primaryRow (BitVec.ofNat 8 (0x04 + 8 * o.index)) = .plain (instrInc8 o) := by
  cases o with
  | reg r => cases r <;> rfl
  | atHl => rfl

theorem primaryRow_dec8 (o : Operand8) : primaryRow (BitVec.ofNat 8 (0x05 + 8 * o.index)) = .plain (instrDec8 o) := by
  cases o with
  | reg r => cases r <;> rfl
  | atHl => rfl

/-- Settles O25: a read-modify-write of the operand with `inc8` and one with `dec8`. -/
theorem byteIncrementDecrement : Obligations.ByteIncrementDecrement := fun o s =>
  ⟨coded_of_plain (primaryRow_inc8 o), ⟨_, exec_instrInc8 o s, modifyOperand8_spec s o (f := fun v _ => inc8 v) (inc8_eq _)⟩,
    coded_of_plain (primaryRow_dec8 o), _, exec_instrDec8 o s, modifyOperand8_spec s o (f := fun v _ => dec8 v) (dec8_eq _)⟩

/-! ### The accumulator's rotates, DAA and the flag instructions (R217 to R224) -/

theorem rotA8_eq (op : RotAOp) (v : Byte) (cin : Bool) : rotA8 op v cin =
    (BitVec.ofNat 8 (rotResult (rotAHelper op) v.toNat cin).1,
      { z := some false
        n := some false
        h := some false
        c := some (rotResult (rotAHelper op) v.toNat cin).2 }) := by
  rw [rotA8, rot8_eq]
  rfl

/-- The rows of the accumulator's rotates: each runs its helper (40_alu.md R172). -/
theorem rotA_row {op : RotAOp} {helper : RotOp} {opcode : Byte}
    (h : (op, helper, opcode) ∈
      [(.rlca, .rlc, 0x07#8), (.rrca, .rrc, 0x0F#8), (.rla, .rl, 0x17#8), (.rra, .rr, 0x1F#8)]) :
    helper = rotAHelper op ∧ primaryRow opcode = .plain (instrRotA op) := by
  simp only [List.mem_cons, Prod.mk.injEq, List.not_mem_nil, or_false] at h
  obtain ⟨rfl, rfl, rfl⟩ | ⟨rfl, rfl, rfl⟩ | ⟨rfl, rfl, rfl⟩ | ⟨rfl, rfl, rfl⟩ := h
  all_goals exact ⟨rfl, rfl⟩

/-- Settles O30: the read-modify-write of A by `rotA8`, whose Z is false in every row. -/
theorem accumulatorRotates : Obligations.AccumulatorRotates := by
  intro op helper opcode s h
  obtain ⟨rfl, hrow⟩ := rotA_row h
  obtain ⟨ha, hflags, hframe⟩ :=
    modifyOperand8_spec s (.reg .a) (f := fun v f => rotA8 op v f.c) (rotA8_eq op s.a s.flags.c)
  refine ⟨coded_of_plain hrow, _, exec_instrRotA op s, ?_, hflags, hframe⟩
  rw [show (runRotA op s).a = _ from ha, BitVec.toNat_ofNat]
  exact Nat.mod_eq_of_lt (rotResult_lt _ _ _)

/-- The flags of decimal adjust: Z from the result, N kept, H false, C from the first step. -/
theorem runDaa_flags_eq (s : State) :
    (runDaa s).flags = ⟨decide ((runDaa s).a.toNat = 0), s.flags.n, false, (daaHigh s.a s.flags).2⟩ := by
  rw [runDaa_flags, runDaa_a, ← byte_beq_zero]
  rfl

theorem daaHigh_of_subtraction (a : Byte) (f : Flags) (hn : f.n = true) :
    daaHigh a f = (a - BitVec.ofNat 8 (if f.c = true then 0x60 else 0), f.c) := by
  cases hc : f.c <;> simp [daaHigh, hn, hc]

theorem daaLow_of_subtraction (a : Byte) (f : Flags) (hn : f.n = true) :
    daaLow a f = a - BitVec.ofNat 8 (if f.h = true then 6 else 0) := by
  cases hh : f.h <;> simp [daaLow, hn, hh]

/-- After a subtraction both steps are decided by the flags alone. -/
theorem daa8_toNat_of_subtraction (a : Byte) (f : Flags) (hn : f.n = true) : (daa8 a f).1.toNat =
    (a.toNat + 512 - ((if f.c = true then 0x60 else 0) + (if f.h = true then 6 else 0))) % 256 := by
  change (daaLow (daaHigh a f).1 f).toNat = _
  rw [daaLow_of_subtraction _ f hn, daaHigh_of_subtraction a f hn]
  simp only [BitVec.toNat_sub, BitVec.toNat_ofNat]
  split_ifs <;> omega

/-- Settles O31: the two directions of decimal adjust, one by each value of N. -/
theorem decimalAdjust : Obligations.DecimalAdjust := by
  intro s
  have hflags := runDaa_flags_eq s
  refine ⟨coded_of_plain rfl, _, exec_daa s, ?added, ?subtracted, ?_, ?_, ?_, within_modifyOperand8_double s (.reg .a) daa8⟩
  case added =>
    intro hn
    rw [hflags, runDaa_a, daaHigh_of_addition s.a s.flags hn]
    exact ⟨daa8_toNat_of_addition s.a s.flags hn, rfl⟩
  case subtracted =>
    intro hn
    rw [hflags, runDaa_a, daaHigh_of_subtraction s.a s.flags hn]
    exact ⟨daa8_toNat_of_subtraction s.a s.flags hn, rfl⟩
  all_goals rw [hflags]

/-- Settles O33: CPL writes A and two flags, SCF and CCF write flags only. -/
theorem complementAndCarryFlag : Obligations.ComplementAndCarryFlag := by
  intro s
  exact ⟨coded_of_plain rfl, ⟨_, exec_cpl s, BitVec.toNat_not, rfl, (within_setA s _).thenFlags _⟩,
    coded_of_plain rfl, ⟨_, exec_scf s, rfl, within_applyFlags s _⟩,
    coded_of_plain rfl, _, exec_ccf s, rfl, within_applyFlags s _⟩

/-! ### Relative jumps (R226, R227) -/

theorem runJr_pc (e8 : Byte) (s : State) : (runJr e8 s).pc = s.pc + sext16 e8 := by
  rw [runJr, State.setPc_pc, State.internal_pc]

theorem within_runJr (e8 : Byte) (s : State) : Within { pc := true, cycles := 4 } s (runJr e8 s) :=
  (within_setPc s.internal _).afterInternal

/-- Settles O40: a taken jump is the unconditional one, one not taken answers the state it is given. -/
theorem relativeJumps : Obligations.RelativeJumps := by
  intro cc e8 s jumps
  have hjumps : jumps (runJr e8 s) := ⟨by rw [runJr_pc, toNat_add_sext16], within_runJr e8 s⟩
  have hcoded : ∀ beyond, Coded (instrJrCc cc e8) [BitVec.ofNat 8 (0x20 + 8 * cc.index), e8] beyond (8 + beyond) :=
    fun _ => coded_of_imm8 (f := instrJrCc cc) (by cases cc <;> rfl) e8
  refine ⟨⟨rfl, rfl, rfl, rfl⟩, coded_of_imm8 rfl e8, ⟨_, exec_jrE8 e8 s, hjumps⟩, hcoded 4, ?taken, ?notTaken⟩
  case taken =>
    intro h
    exact ⟨_, exec_instrJrCc cc e8 s, by rwa [runJrCc, if_pos h]⟩
  case notTaken =>
    intro h
    exact ⟨by rw [exec_instrJrCc, runJrCc, h]; rfl, (hcoded 0).2⟩

/-! ### STOP (R230; 60_exceptions.md R400, R403) -/

/-- A core that is not faulted, and not halted after its interrupt check, runs one instruction (60_exceptions.md R443). -/
theorem step_of_running {s : State} (hs : Safe s) (hr : s.interruptCheck.halted = false) :
    step s = s.interruptCheck.fetchDecodeExecute := by
  simp only [step, hs, loopIteration, hr]

theorem runStop_of_pending {s : State} (h : s.speedSwitchPending = true) :
    runStop s = s.switchSpeed.setPc (s.pc + 1) := if_pos h

theorem runStop_of_not_pending {s : State} (h : s.speedSwitchPending = false) :
    runStop s = s.raiseFatal (.unimplementedSystemMode s.opcodePc) := by
  rw [runStop, h]
  rfl

/-- An opcode fetch answered STOP's byte is the whole fetch: the byte after it is not read. -/
theorem State.fetchInstr_of_stop {s : State} (h : (s.memRead s.pc).1 = 0x10#8) : s.fetchInstr = (.stop, s.fetchOpcode.2) := by
  have hop : s.fetchOpcode.1 = 0x10#8 := by rw [State.fetchOpcode_eq, h]
  have hrow : primaryRow s.fetchOpcode.1 = .skipping .stop := by rw [hop]; rfl
  simp only [State.fetchInstr, hrow]

/-- A STOP that raises leaves PC where its opcode was fetched, whether the fetch advanced it or not. -/
theorem fetchDecodeExecute_of_raising_stop {s : State} (h : (s.memRead s.pc).1 = 0x10#8)
    (hsw : (s.memRead s.pc).2.speedSwitchPending = false) :
    s.fetchDecodeExecute =
      .next
        { (s.memRead s.pc).2 with
          haltBugPending := s.haltBugPending && !s.params.haltBug
          opcodePc := s.pc
          fault := some (.unimplementedSystemMode s.pc) } := by
  have hsw' : s.fetchOpcode.2.speedSwitchPending = false := by rw [State.fetchOpcode_eq, hsw]
  have hpc := s.memRead_state_pc s.pc
  rw [State.fetchDecodeExecute, State.fetchInstr_of_stop h, exec_stop, runStop_of_not_pending hsw', State.fetchOpcode_eq]
  simp only [State.raiseFatal, Fault.pc, hpc]

/-- Settles O48: the row skips a byte, its meaning is a choice by the pending switch, and a step that raises is the opcode fetch and
the raise. -/
theorem stopSwitchesOrFaults : Obligations.StopSwitchesOrFaults := by
  intro skipped rest s
  refine ⟨decode_skipping rfl _, rfl, ?switches, ?raises, ?wholeStep⟩
  case switches =>
    intro h
    rw [exec_stop, runStop_of_pending h]
    rfl
  case raises =>
    intro h
    rw [exec_stop, runStop_of_not_pending h]
    rfl
  case wholeStep =>
    intro s1 fetched hs hr hop hsw
    rw [step_of_running hs hr]
    exact fetchDecodeExecute_of_raising_stop hop hsw

end Sys2Proof.Machine

/-! PROOFS. The family 42_block1.md: the rows 0x40 to 0x7F. A load is one read and one write of an operand, so its frame is the
frame of the operands' accesses; HALT has two outcomes, one lemma each. -/

namespace Sys2Proof.Machine

/-! ### The rows of block 1 (30_encoding.md R122) -/

theorem primaryRow_ldRR (dst src : Reg8) :
    primaryRow (BitVec.ofNat 8 (0x40 + 8 * (Operand8.reg dst).index + (Operand8.reg src).index)) =
      .plain (instrLdRR dst src) := by
  cases dst <;> cases src <;> rfl

theorem primaryRow_ldRAtHl (r : Reg8) :
    primaryRow (BitVec.ofNat 8 (0x46 + 8 * (Operand8.reg r).index)) = .plain (instrLdRAtHl r) := by
  cases r <;> rfl

theorem primaryRow_ldAtHlR (r : Reg8) :
    primaryRow (BitVec.ofNat 8 (0x70 + (Operand8.reg r).index)) = .plain (instrLdAtHlR r) := by
  cases r <;> rfl

/-! ### Loads (R250 to R252) -/

/-- `LD r,r` (R250: "the instruction changes nothing but PC"). -/
theorem State.setReg8_reg8 (s : State) (r : Reg8) : s.setReg8 r (s.reg8 r) = s := by
  cases r <;> rfl

theorem runLd_reg_reg (dst src : Reg8) (s : State) : runLd (.reg dst) (.reg src) s = s.setReg8 dst (s.reg8 src) := rfl

theorem runLd_reg_atHl (r : Reg8) (s : State) :
    runLd (.reg r) .atHl s = (s.memRead s.hl).2.setReg8 r (s.memRead s.hl).1 := rfl

theorem runLd_atHl_reg (r : Reg8) (s : State) : runLd .atHl (.reg r) s = s.memWrite s.hl (s.reg8 r) := rfl

/-- Settles O14: the meaning is one write of the destination, with the source's value. -/
theorem registerLoads : Obligations.RegisterLoads := by
  intro dst src s
  refine ⟨coded_of_plain (primaryRow_ldRR dst src), _, exec_instrLdRR dst src s, ?copied, ?frame, ?selfCopy⟩
  all_goals rw [runLd_reg_reg]
  case copied => exact s.reg8_setReg8_same dst _
  case frame => exact within_setReg8 s dst _
  case selfCopy =>
    rintro rfl
    exact s.setReg8_reg8 dst

/-- Settles O16: the load is a read and then a write of the register, the store is one write at HL. -/
theorem loadsAndStoresThroughHl : Obligations.LoadsAndStoresThroughHl := by
  intro r s
  refine ⟨coded_of_plain (primaryRow_ldRAtHl r), ⟨_, exec_instrLdRAtHl r s, ?_⟩,
    coded_of_plain (primaryRow_ldAtHlR r), _, exec_instrLdAtHlR r s, ?_⟩
  · rw [runLd_reg_atHl]
    exact ⟨State.reg8_setReg8_same _ r _, (within_memRead s s.hl).seq (within_setReg8 _ r _) rfl rfl⟩
  · rw [runLd_atHl_reg]
    exact ⟨stored_memWrite s s.hl (s.reg8 r), within_memWrite s s.hl (s.reg8 r)⟩

/-! ### HALT (R253) -/

/-- The requests are those of the state HALT's meaning starts in, after its own opcode fetch (log 27). -/
theorem runHalt_of_bug {s : State} (hbug : s.params.haltBug = true) (hime : s.ime = false)
    (hirq : s.irqEnable &&& s.irqFlags ≠ 0#5) : runHalt s = s.setHaltBugPending true := by
  simp [runHalt, State.activeIrqs, hbug, hime, hirq]

theorem runHalt_of_noBug {s : State}
    (h : s.params.haltBug = false ∨ s.ime = true ∨ s.irqEnable &&& s.irqFlags = 0#5) : runHalt s = s.setHalted true := by
  obtain hbug | hime | hirq := h
  · simp [runHalt, hbug]
  · simp [runHalt, hime]
  · simp [runHalt, State.activeIrqs, hirq]

/-- Settles O49: the two outcomes of `runHalt`. -/
theorem haltInstruction : Obligations.HaltInstruction := by
  intro s
  refine ⟨coded_of_plain rfl, ?bug, ?halts⟩
  case bug =>
    rintro ⟨hbug, hime, hirq⟩
    rw [exec_halt, runHalt_of_bug hbug hime hirq]
    rfl
  case halts =>
    intro h
    rw [exec_halt, runHalt_of_noBug h]
    rfl

end Sys2Proof.Machine

/-! PROOFS. The family 43_block2_alu.md: the ALU rows on A, with the immediate rows of 44_block3.md. Every row is an operand's read
and then `aluA`, so the bytes, the cycles and the frame are those of all eight operations at once; a statement adds what its
operation computes. -/

namespace Sys2Proof.Machine

/-! ### The rows of block 2 (30_encoding.md R109, R123) and the immediate ones (R124) -/

theorem primaryRow_alu (op : AluOp) (o : Operand8) :
    primaryRow (BitVec.ofNat 8 (0x80 + 8 * op.index + o.index)) = .plain (instrAlu op o) := by
  cases o with
  | reg r => cases op <;> cases r <;> rfl
  | atHl => cases op <;> rfl

theorem primaryRow_aluN8 (op : AluOp) : primaryRow (BitVec.ofNat 8 (0xC6 + 8 * op.index)) = .imm8 (instrAluN8 op) := by
  cases op <;> rfl

/-! ### What an ALU row leaves -/

theorem runAlu_a (op : AluOp) (o : Operand8) (s : State) :
    (runAlu op o s).a = (alu8 op s.a (s.readOperand8 o).1 s.flags.c).1.getD s.a := by
  rw [runAlu, State.aluA_a, State.a_readOperand8, State.flags_readOperand8]

theorem runAlu_flags (op : AluOp) (o : Operand8) (s : State) :
    (runAlu op o s).flags = (alu8 op s.a (s.readOperand8 o).1 s.flags.c).2.apply s.flags := by
  rw [runAlu, State.aluA_flags, State.a_readOperand8, State.flags_readOperand8]

/-- The read of the operand spends the row's cycles; what is written is what the operation writes. -/
theorem within_runAlu {op : AluOp} {written : List Reg8}
    (hframe : ∀ (t : State) (v : Byte), Within { regs := written, flags := true } t (t.aluA op v)) (o : Operand8) (s : State) :
    Within { regs := written, flags := true, cycles := o.cycles } s (runAlu op o s) := by
  have hcycles : o.cycles % 4 = 0 := by cases o <;> rfl
  exact ((within_readOperand8 s o).seq (hframe _ _) hcycles rfl).mono (by constructor <;> simp [Footprint.seq])

/-- The rows of one operation, from what the operation computes (`hvalue`) and the registers it writes (`hframe`). -/
theorem alu_rows {op : AluOp} {s : State} {written : List Reg8} {holds : Byte → State → Prop}
    (hframe : ∀ (t : State) (v : Byte), Within { regs := written, flags := true } t (t.aluA op v))
    (hvalue : ∀ (v : Byte) (t : State), t.a = (alu8 op s.a v s.flags.c).1.getD s.a →
      t.flags = (alu8 op s.a v s.flags.c).2.apply s.flags → holds v t) :
    (∀ o : Operand8, Coded (instrAlu op o) [BitVec.ofNat 8 (0x80 + 8 * op.index + o.index)] o.cycles (4 + o.cycles) ∧
      ∃ t, exec (instrAlu op o) s = .next t ∧ holds (s.readOperand8 o).1 t ∧
        Within { regs := written, flags := true, cycles := o.cycles } s t) ∧
    ∀ n8 : Byte, Coded (instrAluN8 op n8) [BitVec.ofNat 8 (0xC6 + 8 * op.index), n8] 0 8 ∧
      ∃ t, exec (instrAluN8 op n8) s = .next t ∧ holds n8 t ∧ Within { regs := written, flags := true } s t := by
  constructor
  · intro o
    exact ⟨coded_of_plain (primaryRow_alu op o), _, exec_instrAlu op o s,
      hvalue _ _ (runAlu_a op o s) (runAlu_flags op o s), within_runAlu hframe o s⟩
  · intro n8
    exact ⟨coded_of_imm8 (primaryRow_aluN8 op) n8, _, exec_instrAluN8 op n8 s,
      hvalue _ _ (s.aluA_a op n8) (s.aluA_flags op n8), hframe s n8⟩

/-! ### Addition and subtraction (R270 to R277, R313 to R316) -/

/-- ADD is ADC without a carry-in. -/
theorem alu8_of_addition {op : AluOp} {withCarry : Bool} (h : (op, withCarry) ∈ [(AluOp.add, false), (AluOp.adc, true)])
    (a b : Byte) (c : Bool) : alu8 op a b c = (some (adc8 a b (withCarry && c)).1, (adc8 a b (withCarry && c)).2) := by
  simp only [List.mem_cons, Prod.mk.injEq, List.not_mem_nil, or_false] at h
  obtain ⟨rfl, rfl⟩ | ⟨rfl, rfl⟩ := h
  · rw [alu8, add8_eq_adc8, Bool.false_and]
  · rw [alu8, Bool.true_and]

/-- SUB is SBC without a carry-in. -/
theorem alu8_of_subtraction {op : AluOp} {withCarry : Bool} (h : (op, withCarry) ∈ [(AluOp.sub, false), (AluOp.sbc, true)])
    (a b : Byte) (c : Bool) : alu8 op a b c = (some (sbc8 a b (withCarry && c)).1, (sbc8 a b (withCarry && c)).2) := by
  simp only [List.mem_cons, Prod.mk.injEq, List.not_mem_nil, or_false] at h
  obtain ⟨rfl, rfl⟩ | ⟨rfl, rfl⟩ := h
  · rw [alu8, sub8_eq_sbc8, Bool.false_and]
  · rw [alu8, Bool.true_and]

/-- Settles O26: both operations are `adc8`, whose flags are the carries of the exact sum. -/
theorem additionToA : Obligations.AdditionToA := by
  intro op withCarry s h cin holds
  refine alu_rows (fun t => within_aluA t op) fun v t ha hflags => ?_
  rw [alu8_of_addition h, adc8_eq] at ha hflags
  exact ⟨by rw [ha]; exact BitVec.toNat_ofNat .., hflags⟩

/-- Settles O27: both operations are `sbc8`, whose flags are the borrows of the exact difference. -/
theorem subtractionFromA : Obligations.SubtractionFromA := by
  intro op withCarry s h cin holds
  refine alu_rows (fun t => within_aluA t op) fun v t ha hflags => ?_
  rw [alu8_of_subtraction h, sbc8_eq] at ha hflags
  have hvalue : t.a.toNat = (s.a.toNat + 512 - (v.toNat + cin)) % 256 := by rw [ha]; exact BitVec.toNat_ofNat ..
  exact ⟨hvalue, by rw [hvalue]; exact hflags⟩

/-! ### Logic (R278 to R283, R317 to R319) -/

/-- AND, XOR and OR work bit by bit; they differ in H only. -/
theorem alu8_of_logic {op : AluOp} {f : Bool → Bool → Bool} {h : Bool}
    (hop : (op = .and ∧ f = and ∧ h = true) ∨ (op = .xor ∧ f = xor ∧ h = false) ∨ (op = .or ∧ f = or ∧ h = false))
    (a b : Byte) (c : Bool) : ∃ res : Byte, alu8 op a b c = (some res, logic8Update h res) ∧
      ∀ k, res.getLsbD k = f (a.getLsbD k) (b.getLsbD k) := by
  obtain ⟨rfl, rfl, rfl⟩ | ⟨rfl, rfl, rfl⟩ | ⟨rfl, rfl, rfl⟩ := hop
  · exact ⟨a &&& b, rfl, fun _ => BitVec.getLsbD_and⟩
  · exact ⟨a ^^^ b, rfl, fun _ => BitVec.getLsbD_xor⟩
  · exact ⟨a ||| b, rfl, fun _ => BitVec.getLsbD_or⟩

theorem logic8Update_apply (h : Bool) (res : Byte) (f : Flags) :
    (logic8Update h res).apply f = ⟨decide (res.toNat = 0), false, h, false⟩ := by
  rw [← byte_beq_zero]
  rfl

/-- Settles O28: the result is bitwise, and the flags are those of `logic8Update`. -/
theorem logicOnA : Obligations.LogicOnA := by
  intro op f h s hop holds
  refine alu_rows (fun t => within_aluA t op) fun v t ha hflags => ?_
  obtain ⟨res, halu, hbits⟩ := alu8_of_logic hop s.a v s.flags.c
  rw [halu] at ha hflags
  obtain rfl : t.a = res := ha
  exact ⟨fun k _ => hbits k, hflags.trans (logic8Update_apply h t.a s.flags)⟩

/-! ### Compare (R284, R285, R320) -/

theorem within_aluA_cp (s : State) (v : Byte) : Within { flags := true } s (s.aluA .cp v) := by
  rw [State.aluA_cp]
  exact within_applyFlags s _

/-- The flags of CP: of a subtraction with no carry-in, so Z is set exactly when the operands are equal. -/
theorem cp8_eq (a b : Byte) : cp8 a b =
    { z := some (decide (a = b))
      n := some true
      h := some (decide (a.toNat % 16 < b.toNat % 16))
      c := some (decide (a.toNat < b.toNat)) } := by
  have hz : (a.toNat + 512 - b.toNat) % 256 = 0 ↔ a = b := by bv_omega
  simp only [cp8, sub8_eq_sbc8, sbc8_eq, Bool.toNat_false, Nat.add_zero, hz]

/-- Settles O29: CP applies the flags of `cp8_eq` and writes no register. -/
theorem compareWithA : Obligations.CompareWithA := by
  intro s holds
  refine alu_rows within_aluA_cp fun v t _ hflags => ?_
  rw [alu8, cp8_eq] at hflags
  exact hflags

end Sys2Proof.Machine

/-! PROOFS. The family 44_block3.md: the rows 0xC0 to 0xFF, but for the ALU rows. The stack rows are made of `push16` and `pop16`,
with an internal step before the push or after the pop, so each takes its frame and its values from those two operations. -/

namespace Sys2Proof.Machine

/-! ### Frames the rows of this block share -/

/-- An internal step before a piece that spends time too. -/
theorem Within.precededByInternal {f : Footprint} {s t : State} (h : Within f s.internal t) (hc : f.cycles % 4 = 0 := by rfl) :
    Within { f with cycles := 4 + f.cycles } s t :=
  ((within_internal s).seq h rfl hc).mono (by constructor <;> simp [Footprint.seq])

theorem within_fetch8 (s : State) : Within { pc := true, cycles := 4 } s s.fetch8.2 :=
  (within_memRead s s.pc).seq (within_setPc _ _) rfl rfl

theorem within_loadA (addr : Word) (s : State) : Within { regs := [.a], cycles := 4 } s (loadA addr s) :=
  (within_memRead s addr).seq (within_setA _ _) rfl rfl

/-! ### PUSH (R311, R312) -/

theorem Flags.pack_toNat (f : Flags) :
    f.pack.toNat = f.z.toNat * 128 + f.n.toNat * 64 + f.h.toNat * 32 + f.c.toNat * 16 := by
  obtain ⟨z, n, h, c⟩ := f
  cases z <;> cases n <;> cases h <;> cases c <;> rfl

theorem State.af_toNat (s : State) : s.af.toNat =
    s.a.toNat * 256 + s.flags.z.toNat * 128 + s.flags.n.toNat * 64 + s.flags.h.toNat * 32 + s.flags.c.toNat * 16 := by
  rw [State.af, wordOf_toNat, Flags.pack_toNat]
  omega

/-- What a push after an internal step leaves: CALL, RST and PUSH are built on it. -/
theorem stored_internal_push16 (s : State) (v : Word) :
    Stored (s.sp - 1) (hiByte v) 3 s (s.internal.push16 v) ∧ Stored (s.sp - 2) (loByte v) 3 s (s.internal.push16 v) := by
  have ⟨hhigh, hlow⟩ := stored_push16 s.internal v
  rw [State.internal_sp] at hhigh hlow
  exact ⟨hhigh.after (m := 1) s.internal_env, hlow.after (m := 1) s.internal_env⟩

theorem within_internal_push16 (s : State) (v : Word) :
    Within { sp := true, stores := [s.sp - 1, s.sp - 2], cycles := 12 } s (s.internal.push16 v) := by
  have h := (within_push16 s.internal v).precededByInternal (by simp)
  rwa [State.internal_sp] at h

theorem runPush_eq (p : R16stk) (s : State) : runPush p s = s.internal.push16 (s.r16stk p) := by
  rw [runPush, State.internal_r16stk]

/-- Settles O46: an internal step, then `push16` of the pair. -/
theorem pushesToTheStack : Obligations.PushesToTheStack := by
  intro p s
  have hrow : primaryRow (BitVec.ofNat 8 (0xC5 + 16 * p.index)) = .plain (instrPush p) := by cases p <;> rfl
  have ⟨hhigh, hlow⟩ := stored_internal_push16 s (s.r16stk p)
  refine ⟨coded_of_plain hrow, s.af_toNat, _, exec_instrPush p s, ?_⟩
  rw [runPush_eq]
  exact ⟨by rw [State.push16_sp, State.internal_sp], hhigh, hlow, within_internal_push16 s _⟩

/-! ### POP (R309, R310) -/

/-- The flags a popped word writes: bits 7 to 4 of its low byte (10_state.md R33). -/
theorem Flags.unpack_loByte (v : Word) :
    Flags.unpack (loByte v) = ⟨v.getLsbD 7, v.getLsbD 6, v.getLsbD 5, v.getLsbD 4⟩ := by
  simp [Flags.unpack, loByte]

/-- Settles O45: `pop16`, then one write of the pair. -/
theorem popsFromTheStack : Obligations.PopsFromTheStack := by
  intro p s
  have hrow : primaryRow (BitVec.ofNat 8 (0xC1 + 16 * p.index)) = .plain (instrPop p) := by cases p <;> rfl
  refine ⟨coded_of_plain hrow, State.pop16_plain, _, exec_instrPop p s, ?popped, State.r16stk_setR16stk _ p _, ?poppedAf,
    ((within_pop16 s).seq (within_setR16stk _ p _) rfl rfl).mono (by constructor <;> simp [Footprint.seq])⟩
  case popped => rw [runPop, State.setR16stk_sp, State.pop16_state_sp]
  case poppedAf =>
    rintro rfl
    exact ⟨rfl, Flags.unpack_loByte _⟩

/-! ### POP after PUSH (10_state.md R31 to R34) -/

theorem State.r16stk_congr {s t : State} (hr : ∀ r, t.reg8 r = s.reg8 r) (hf : t.flags = s.flags) (p : R16stk) :
    t.r16stk p = s.r16stk p := by
  cases p with
  | bc => exact congrArg₂ wordOf (hr .b) (hr .c)
  | de => exact congrArg₂ wordOf (hr .d) (hr .e)
  | hl => exact congrArg₂ wordOf (hr .h) (hr .l)
  | af => exact congrArg₂ wordOf (hr .a) (congrArg Flags.pack hf)

/-- Writing a stacked pair with what it holds changes nothing. -/
theorem State.setR16stk_of_eq {s : State} {p : R16stk} {v : Word} (h : s.r16stk p = v) : s.setR16stk p v = s := by
  subst h
  cases p <;>
    simp [State.setR16stk, State.r16stk, State.setBc, State.setDe, State.setHl, State.setAf, State.bc, State.de, State.hl,
      State.af, hiByte_wordOf, loByte_wordOf, Flags.unpack_pack]

/-- A write of AF keeps the word but for its low nibble (R33, R34). -/
theorem State.af_setAf (s : State) (v : Word) : (s.setAf v).af = v &&& 0xFFF0#16 :=
  calc (s.setAf v).af
    _ = hiByte v ++ (loByte v &&& 0xF0#8) := congrArg (hiByte v ++ ·) (Flags.pack_unpack (loByte v))
    _ = (hiByte v &&& BitVec.allOnes 8) ++ (loByte v &&& 0xF0#8) := by rw [BitVec.and_allOnes]
    _ = wordOf (hiByte v) (loByte v) &&& 0xFFF0#16 := BitVec.and_append.symm
    _ = v &&& 0xFFF0#16 := by rw [wordOf_hiByte_loByte]

/-- PUSH and then `pop16`, on a RAM stack: the word comes back, SP returns, and no register or flag is written. -/
structure PoppedBack (v : Word) (s t : State) : Prop where
  word : t.pop16.1 = v
  sp : t.pop16.2.sp = s.sp
  flags : t.pop16.2.flags = s.flags
  regs : ∀ r, t.pop16.2.reg8 r = s.reg8 r

theorem poppedBack_push16 {s : State} (v : Word) (he : s.env = []) (h1 : s.sp - 1 ≠ ifAddr) (h2 : s.sp - 1 ≠ ieAddr)
    (h3 : s.sp - 2 ≠ ifAddr) (h4 : s.sp - 2 ≠ ieAddr) : PoppedBack v s (s.internal.push16 v) := by
  have ⟨hhigh, hlow⟩ := stored_internal_push16 s v
  have hpush := within_internal_push16 s v
  have henv : (s.internal.push16 v).env = [] := by simp [he]
  have hsp : (s.internal.push16 v).sp = s.sp - 2 := by simp
  generalize s.internal.push16 v = t at *
  have hup : t.sp + 1 = s.sp - 1 := by rw [hsp]; bv_omega
  have hpop := within_pop16 t
  exact
    { word := by
        rw [State.pop16_plain henv (hsp ▸ h3) (hsp ▸ h4) (hup ▸ h1) (hup ▸ h2), hup, hsp, hhigh.bus h1 h2, hlow.bus h3 h4,
          wordOf_hiByte_loByte]
      sp := by rw [State.pop16_state_sp, hsp]; exact BitVec.sub_add_cancel s.sp 2
      flags := (hpop.flags rfl).trans (hpush.flags rfl)
      regs := fun r => (hpop.regs r (by simp)).trans (hpush.regs r (by simp)) }

/-- Settles O47: between the two rows `pop16` gives back the pushed word; POP writes the pair it finds there already, and POP AF
drops the low nibble. -/
theorem popGivesBackWhatPushPushed : Obligations.PopGivesBackWhatPushPushed := by
  intro p s he h1 h2 h3 h4
  refine ⟨⟨_, _, exec_instrPush p s, exec_instrPop p _, ?same⟩, _, _, exec_instrPush .bc s, exec_instrPop .af _, ?bcToAf⟩
  case same =>
    have hback := poppedBack_push16 (s.r16stk p) he h1 h2 h3 h4
    have hpair := State.r16stk_congr hback.regs hback.flags p
    rw [runPop, runPush_eq, hback.word, State.setR16stk_of_eq hpair]
    exact ⟨hback.sp, hback.flags, hback.regs⟩
  case bcToAf =>
    rw [runPop, runPush_eq, (poppedBack_push16 (s.r16stk .bc) he h1 h2 h3 h4).word]
    exact State.af_setAf _ _

/-! ### CALL and RST (R306 to R308) -/

theorem runCall_eq (target : Word) (s : State) : runCall target s = (s.internal.push16 s.pc).setPc target := by
  rw [runCall, State.internal_pc]

/-- What a call leaves: PC at the target, PC as the fetch left it on the stack. -/
theorem runCall_spec (target : Word) (s : State) :
    (runCall target s).pc = target ∧ (runCall target s).sp = s.sp - 2 ∧
      Stored (s.sp - 1) (hiByte s.pc) 3 s (runCall target s) ∧ Stored (s.sp - 2) (loByte s.pc) 3 s (runCall target s) ∧
      Within { sp := true, pc := true, stores := [s.sp - 1, s.sp - 2], cycles := 12 } s (runCall target s) := by
  have ⟨hhigh, hlow⟩ := stored_internal_push16 s s.pc
  have hpc := within_setPc (s.internal.push16 s.pc) target
  have henv : (s.internal.push16 s.pc).env = s.env.drop 3 := by simp
  rw [runCall_eq]
  exact ⟨rfl, by simp, hhigh.seq henv hpc (by simp), hlow.seq henv hpc (by simp),
    ((within_internal_push16 s s.pc).seq hpc (by simp) rfl).mono (by constructor <;> simp [Footprint.seq])⟩

/-- The restart vectors, as numbers (30_encoding.md R111). -/
theorem rstVector_toNat (y : Field3) : (BitVec.ofNat 16 (y.toNat <<< 3)).toNat = 8 * y.toNat := by cases y <;> rfl

/-- Settles O42: every taken row is `runCall`, one not taken answers the state it is given. -/
theorem callsAndRestarts : Obligations.CallsAndRestarts := by
  intro cc n16 y s calls
  have hcalls (target : Word) : calls target.toNat (runCall target s) :=
    have ⟨hpc, hrest⟩ := runCall_spec target s
    ⟨congrArg BitVec.toNat hpc, hrest⟩
  have hcoded (beyond : Nat) : Coded (instrCallCc cc n16) [BitVec.ofNat 8 (0xC4 + 8 * cc.index), loByte n16, hiByte n16]
      beyond (12 + beyond) :=
    coded_of_imm16 (f := instrCallCc cc) (by cases cc <;> rfl) n16
  have hrst : primaryRow (BitVec.ofNat 8 (0xC7 + 8 * y.toNat)) = .plain (instrRst y) := by cases y <;> rfl
  refine ⟨coded_of_imm16 rfl n16, ⟨_, exec_callN16 n16 s, hcalls n16⟩, hcoded 12, ?taken, ?notTaken, coded_of_plain hrst, _,
    exec_instrRst y s, ?restart⟩
  case taken =>
    intro h
    exact ⟨_, exec_instrCallCc cc n16 s, by rw [runCallCc, if_pos h]; exact hcalls n16⟩
  case notTaken =>
    intro h
    exact ⟨by rw [exec_instrCallCc, runCallCc, h]; rfl, (hcoded 0).2⟩
  case restart =>
    rw [← rstVector_toNat]
    exact hcalls _

/-! ### RET and RETI (R300 to R302) -/

theorem runRetCc_of_holds {cc : Cond} {s : State} (h : condHolds cc s.flags = true) :
    runRetCc cc s = s.internal.returnFromCall := by
  rw [runRetCc, State.internal_flags, if_pos h]

theorem runRetCc_of_not_holds {cc : Cond} {s : State} (h : condHolds cc s.flags = false) : runRetCc cc s = s.internal := by
  rw [runRetCc, State.internal_flags, h]
  rfl

/-- Settles O43: RET is the return, RET cc its condition step and then the return or nothing. -/
theorem returnsFromCalls : Obligations.ReturnsFromCalls := by
  intro cc s
  have hcoded (beyond : Nat) : Coded (instrRetCc cc) [BitVec.ofNat 8 (0xC0 + 8 * cc.index)] beyond (4 + beyond) :=
    coded_of_plain (by cases cc <;> rfl)
  refine ⟨coded_of_plain rfl, ⟨_, exec_ret s, s.returnFromCall_pc, s.returnFromCall_sp, within_returnFromCall s⟩, hcoded 16,
    ?taken, ?notTaken⟩
  case taken =>
    intro h
    refine ⟨_, exec_instrRetCc cc s, ?_⟩
    rw [runRetCc_of_holds h]
    exact ⟨State.returnFromCall_pc _, by rw [State.returnFromCall_sp, State.internal_sp],
      (within_returnFromCall s.internal).precededByInternal⟩
  case notTaken =>
    intro h
    refine ⟨_, exec_instrRetCc cc s, ?_, (hcoded 4).2⟩
    rw [runRetCc_of_not_holds h]
    exact within_internal s

/-- With both enables set a dispatch is allowed in both orders (60_exceptions.md R421, R424). -/
theorem State.dispatchGate_of_enabled {s : State} (h : s.ime = true) (hnext : s.imeNext = true) : s.dispatchGate = true := by
  unfold State.dispatchGate
  split
  · exact hnext
  · exact h

/-- Settles O44: the return, then both enables, which open the gate of the next interrupt check. -/
theorem returnFromInterrupt : Obligations.ReturnFromInterrupt := by
  intro s
  have hframe := (within_returnFromCall s).seq (within_setIme s.returnFromCall true true) rfl rfl
  refine ⟨coded_of_plain rfl, _, exec_reti s, s.returnFromCall_pc, s.returnFromCall_sp, rfl, rfl, hframe, ?_⟩
  exact fun i => State.interruptCheck_dispatch _ i (State.dispatchGate_of_enabled rfl rfl)

/-! ### Jumps (R303 to R305) -/

theorem within_runJp (n16 : Word) (s : State) : Within { pc := true, cycles := 4 } s (runJp n16 s) :=
  (within_setPc s.internal n16).afterInternal

/-- Settles O41: a taken jump is the unconditional one, one not taken answers the state it is given; JP HL is one write of PC. -/
theorem absoluteJumps : Obligations.AbsoluteJumps := by
  intro cc n16 s jumps
  have hjumps : jumps (runJp n16 s) := ⟨rfl, within_runJp n16 s⟩
  have hcoded (beyond : Nat) : Coded (instrJpCc cc n16) [BitVec.ofNat 8 (0xC2 + 8 * cc.index), loByte n16, hiByte n16]
      beyond (12 + beyond) :=
    coded_of_imm16 (f := instrJpCc cc) (by cases cc <;> rfl) n16
  refine ⟨coded_of_imm16 rfl n16, ⟨_, exec_jpN16 n16 s, hjumps⟩, hcoded 4, ?taken, ?notTaken, coded_of_plain rfl, _,
    exec_jpHl s, rfl, within_setPc s s.hl⟩
  case taken =>
    intro h
    exact ⟨_, exec_instrJpCc cc n16 s, by rwa [runJpCc, if_pos h]⟩
  case notTaken =>
    intro h
    exact ⟨by rw [exec_instrJpCc, runJpCc, h]; rfl, (hcoded 0).2⟩

/-! ### Arithmetic on SP (R327 to R329) -/

theorem runAddSp_eq (e8 : Byte) (s : State) : runAddSp e8 s =
    (s.internal.internal.setSp (s.sp + sext16 e8)).applyFlags (addSpSigned8 s.sp e8).2 := by
  rw [runAddSp, State.internal_sp, State.internal_sp, addSpSigned8_eq]

theorem runLdHlSp_eq (e8 : Byte) (s : State) : runLdHlSp e8 s =
    (s.internal.setHl (s.sp + sext16 e8)).applyFlags (addSpSigned8 s.sp e8).2 := by
  rw [runLdHlSp, State.internal_sp, addSpSigned8_eq]

/-- Settles O34: internal steps, one write of SP or of HL, and the flags of `addSpSigned8_eq`. -/
theorem stackPointerArithmetic : Obligations.StackPointerArithmetic := by
  intro e8 s flags
  have hflags (t : State) : (t.applyFlags (addSpSigned8 s.sp e8).2).flags = flags := by rw [addSpSigned8_eq]; rfl
  refine ⟨coded_of_imm8 rfl e8, ⟨_, exec_addSpE8 e8 s, ?addSp⟩, coded_of_imm8 rfl e8, ⟨_, exec_ldHlSpE8 e8 s, ?ldHl⟩,
    coded_of_plain rfl, _, exec_ldSpHl s, s.hl_internal, (within_setSp s.internal _).afterInternal⟩
  case addSp =>
    rw [runAddSp_eq]
    exact ⟨toNat_add_sext16 s.sp e8, hflags _,
      ((within_setSp s.internal.internal _).thenFlags _).afterInternal.precededByInternal⟩
  case ldHl =>
    rw [runLdHlSp_eq, State.hl_applyFlags, State.hl_setHl]
    exact ⟨toNat_add_sext16 s.sp e8, hflags _, ((within_setR16 s.internal .hl _).thenFlags _).afterInternal⟩

/-! ### Loads and stores of A (R321 to R326) -/

theorem eq_highPage {addr : Word} {n : Byte} (h : addr.toNat = 0xFF00 + n.toNat) : addr = highPage n :=
  BitVec.eq_of_toNat_eq (by rw [h, highPage_toNat])

/-- Settles O21: each row is one write of A at its address. -/
theorem storesOfAToAddresses : Obligations.StoresOfAToAddresses := by
  intro i bytes total addr s hrow
  have hstore := stored_memWrite s addr s.a
  have hframe := within_memWrite s addr s.a
  obtain ⟨n8, rfl, rfl, rfl, haddr⟩ | ⟨rfl, rfl, rfl, haddr⟩ | ⟨rfl, rfl, rfl⟩ := hrow
  · obtain rfl := eq_highPage haddr
    exact ⟨coded_of_imm8 rfl n8, _, exec_ldhAtN8A n8 s, hstore, hframe⟩
  · obtain rfl := eq_highPage haddr
    exact ⟨coded_of_plain rfl, _, exec_ldhAtCA s, hstore, hframe⟩
  · exact ⟨coded_of_imm16 rfl addr, _, exec_ldAtN16A addr s, hstore, hframe⟩

/-- Settles O22: each row is `loadA` at its address. -/
theorem loadsOfAFromAddresses : Obligations.LoadsOfAFromAddresses := by
  intro i bytes total addr s hrow
  have hload : (loadA addr s).a = (s.memRead addr).1 := rfl
  have hframe := within_loadA addr s
  obtain ⟨n8, rfl, rfl, rfl, haddr⟩ | ⟨rfl, rfl, rfl, haddr⟩ | ⟨rfl, rfl, rfl⟩ := hrow
  · obtain rfl := eq_highPage haddr
    exact ⟨coded_of_imm8 rfl n8, _, exec_ldhAAtN8 n8 s, hload, hframe⟩
  · obtain rfl := eq_highPage haddr
    exact ⟨coded_of_plain rfl, _, exec_ldhAAtC s, hload, hframe⟩
  · exact ⟨coded_of_imm16 rfl addr, _, exec_ldAAtN16 addr s, hload, hframe⟩

/-! ### PREFIX CB, DI and EI (R330 to R332) -/

/-- Settles O39: the meaning is one fetch and then the row; every row of the CB map answers a next state. -/
theorem prefixRunsTheCbRow : Obligations.PrefixRunsTheCbRow := by
  intro s op2
  refine ⟨encode_cbInstr op2, ?_⟩
  rintro rfl
  obtain ⟨u, hu, -⟩ := exec_cbInstr_keeps s.fetch8.1 s.fetch8.2
  exact ⟨_, u, rfl, s.fetch8_state_pc, within_fetch8 s, (exec_prefixCb s).trans hu, hu⟩

/-- Settles O50: each meaning is one write of the enables. -/
theorem interruptEnableAndDisable : Obligations.InterruptEnableAndDisable := fun s =>
  ⟨coded_of_plain rfl, exec_di s, coded_of_plain rfl, exec_ei s⟩

/-! ### ILLEGAL (R333; 60_exceptions.md R400 to R402) -/

theorem primaryRow_illegal (k : IllegalByte) : primaryRow k.opcode = .plain (instrIllegal k) := by cases k <;> rfl

/-- A faulted core takes no step (R401). -/
theorem step_of_faulted {s : State} {k : Fault} (h : s.fault = some k) : step s = .fault k := by
  simp only [step, h]

/-- An opcode fetch answered the byte of a one-byte row is the whole fetch. -/
theorem State.fetchInstr_of_plain {s : State} {op : Byte} {i : Instr} (h : (s.memRead s.pc).1 = op)
    (hrow : primaryRow op = .plain i) : s.fetchInstr = (i, s.fetchOpcode.2) := by
  have hop : primaryRow s.fetchOpcode.1 = .plain i := by rw [State.fetchOpcode_eq, h, hrow]
  simp only [State.fetchInstr, hop]

/-- An ILLEGAL row leaves PC where its opcode was fetched, whether the fetch advanced it or not. -/
theorem fetchDecodeExecute_of_illegal {s : State} {k : IllegalByte} (h : (s.memRead s.pc).1 = k.opcode) :
    s.fetchDecodeExecute =
      .next
        { (s.memRead s.pc).2 with
          haltBugPending := s.haltBugPending && !s.params.haltBug
          opcodePc := s.pc
          fault := some (.illegalOpcode s.pc k.opcode) } := by
  have hpc := s.memRead_state_pc s.pc
  rw [State.fetchDecodeExecute, State.fetchInstr_of_plain h (primaryRow_illegal k), exec_instrIllegal, runIllegal,
    State.fetchOpcode_eq]
  simp only [State.raiseFatal, Fault.pc, hpc]

/-- Settles O51: the meaning is the raise, the step after it finds the condition, and a whole step that raises is the opcode fetch
and the raise. -/
theorem illegalOpcodesFault : Obligations.IllegalOpcodesFault := by
  intro k s
  refine ⟨coded_of_plain (primaryRow_illegal k), _, exec_instrIllegal k s, rfl, step_of_faulted rfl, ?_⟩
  intro s1 hs hr hop
  rw [step_of_running hs hr]
  exact fetchDecodeExecute_of_illegal hop

end Sys2Proof.Machine

/-! PROOFS. The family 45_cb_prefix.md: the rows of the CB map. A row's second byte comes from the fields of the map; all rows but
BIT are one read-modify-write of the operand, so each takes its frame and its operand from that, and its value from the number law
or the bits of its helper. -/

namespace Sys2Proof.Machine

/-! ### The bytes and cycles of a CB row (30_encoding.md R103, R104, R110, R125) -/

theorem coded_of_cb {op2 : Byte} {i : Instr} {beyond : Nat} (h : cbInstr op2 = i) :
    Coded i [0xCB#8, op2] beyond (8 + beyond) := by
  subst h
  exact coded_of_encode (encode_cbInstr op2) (cb_wf op2).2

theorem r8Table_index (z : Field3) : (r8Table z).index = z.toNat := by cases z <;> rfl

theorem rotTable_index (y : Field3) : (rotTable y).index = y.toNat := by cases y <;> rfl

/-- A byte from its fields, as a number. -/
theorem opByte_eq_ofNat (block : BitVec 2) (y z : Field3) :
    opByte block y z = BitVec.ofNat 8 (0x40 * block.toNat + 8 * y.toNat + z.toNat) := by
  revert block
  cases y <;> cases z <;> decide

/-- The rows of one block of the CB map, each found at the byte its bit field and its operand make up. -/
theorem cbInstr_of_block {row : Field3 → Operand8 → Instr} (block : BitVec 2)
    (hrow : ∀ y z, cbInstr (opByte block y z) = row y (r8Table z)) (y : Field3) (o : Operand8) {n : Nat}
    (hn : n = 0x40 * block.toNat + 8 * y.toNat + o.index) : cbInstr (BitVec.ofNat 8 n) = row y o := by
  obtain ⟨z, rfl⟩ := r8Table_surjective o
  rw [hn, r8Table_index, ← opByte_eq_ofNat, hrow]

theorem cbInstr_rot (op : RotOp) (o : Operand8) : cbInstr (BitVec.ofNat 8 (8 * op.index + o.index)) = instrRot op o := by
  obtain ⟨y, rfl⟩ := rotTable_surjective op
  exact cbInstr_of_block (row := fun y => instrRot (rotTable y)) 0 (by simp [cbInstr_eq, field2]) y o
    (by simp [rotTable_index])

theorem cbInstr_bit (b : Field3) (o : Operand8) :
    cbInstr (BitVec.ofNat 8 (0x40 + 8 * b.toNat + o.index)) = instrBit b o :=
  cbInstr_of_block 1 (by simp [cbInstr_eq, field2]) b o rfl

theorem cbInstr_res (b : Field3) (o : Operand8) :
    cbInstr (BitVec.ofNat 8 (0x80 + 8 * b.toNat + o.index)) = instrRes b o :=
  cbInstr_of_block 2 (by simp [cbInstr_eq, field2]) b o rfl

theorem cbInstr_set (b : Field3) (o : Operand8) :
    cbInstr (BitVec.ofNat 8 (0xC0 + 8 * b.toNat + o.index)) = instrSet b o :=
  cbInstr_of_block 3 (by simp [cbInstr_eq, field2]) b o rfl

/-! ### Rotates and shifts (R370 to R385; 40_alu.md R164 to R171) -/

theorem rot8Update_apply (res : Byte) (c : Bool) (f : Flags) :
    (rot8Update res c).apply f = ⟨decide (res.toNat = 0), false, false, c⟩ := by
  rw [← byte_beq_zero]
  rfl

/-- What a row of CB group 00 does, for all eight operations: a read-modify-write by `rot8`, whose result is that of
`rotResult`. -/
theorem rot_row (op : RotOp) (o : Operand8) (s : State) :
    let r := rotResult op (s.readOperand8 o).1.toNat s.flags.c
    Coded (instrRot op o) [0xCB#8, BitVec.ofNat 8 (8 * op.index + o.index)] (2 * o.cycles) (8 + 2 * o.cycles) ∧
    ∃ t, exec (instrRot op o) s = .next t ∧ r.1 < 256 ∧ Written o (BitVec.ofNat 8 r.1) 2 s t ∧
      t.flags = ⟨decide (r.1 = 0), false, false, r.2⟩ ∧
      Within { regs := o.regs, flags := true, stores := s.operandStores o, cycles := 2 * o.cycles } s t := by
  intro r
  have hlt : r.1 < 256 := rotResult_lt op (s.readOperand8 o).1 s.flags.c
  obtain ⟨hwritten, hflags, hframe⟩ :=
    modifyOperand8_spec s o (f := fun v f => rot8 op v f.c) (rot8_eq op (s.readOperand8 o).1 s.flags.c)
  rw [rot8Update_apply, BitVec.toNat_ofNat, Nat.mod_eq_of_lt hlt] at hflags
  exact ⟨coded_of_cb (cbInstr_rot op o), _, exec_instrRot op o s, hlt, hwritten, hflags, hframe⟩

/-- Settles O35: four rows of CB group 00. -/
theorem rotates : Obligations.Rotates := fun op o s _ => rot_row op o s

/-- Settles O36: the other four rows of CB group 00. -/
theorem shiftsAndSwap : Obligations.ShiftsAndSwap := fun op o s _ => rot_row op o s

/-! ### BIT (R386, R387) -/

theorem runBit_flags (b : Field3) (o : Operand8) (s : State) :
    (runBit b o s).flags = ⟨!(s.readOperand8 o).1.getLsbD b.toNat, false, true, s.flags.c⟩ := by
  rw [runBit, State.applyFlags_flags, State.flags_readOperand8]
  rfl

theorem within_runBit (b : Field3) (o : Operand8) (s : State) :
    Within { flags := true, cycles := o.cycles } s (runBit b o s) :=
  (within_readOperand8 s o).thenFlags _ (by cases o <;> rfl)

/-- Settles O37: one read of the operand, then the flags. -/
theorem bitTests : Obligations.BitTests := fun b o s =>
  ⟨coded_of_cb (cbInstr_bit b o), _, exec_instrBit b o s, runBit_flags b o s, within_runBit b o s⟩

/-! ### RES and SET (R388 to R391; 40_alu.md R174) -/

/-- The mask of one bit. -/
theorem getLsbD_one_shiftLeft {k : Nat} (hk : k < 8) (n : Nat) : (1#8 <<< n).getLsbD k = decide (k = n) := by
  rw [← BitVec.twoPow_eq, BitVec.getLsbD_twoPow, ← Bool.decide_and, decide_eq_decide]
  omega

theorem getLsbD_res8 (b : Field3) (v : Byte) {k : Nat} (hk : k < 8) :
    (res8 b v).getLsbD k = (v.getLsbD k && decide (k ≠ b.toNat)) := by
  rw [res8, BitVec.getLsbD_and, BitVec.getLsbD_not, getLsbD_one_shiftLeft hk, decide_eq_true hk, Bool.true_and, decide_not]

theorem getLsbD_set8 (b : Field3) (v : Byte) {k : Nat} (hk : k < 8) :
    (set8 b v).getLsbD k = (v.getLsbD k || decide (k = b.toNat)) := by
  rw [set8, BitVec.getLsbD_or, getLsbD_one_shiftLeft hk]

/-- Settles O38: a read-modify-write that keeps the flags, by `res8` and by `set8`. -/
theorem bitResetsAndSets : Obligations.BitResetsAndSets := by
  intro b o s v _
  refine ⟨coded_of_cb (cbInstr_res b o), ⟨_, res8 b v, exec_instrRes b o s, ?_, fun k => getLsbD_res8 b v, ?_⟩,
    coded_of_cb (cbInstr_set b o), _, set8 b v, exec_instrSet b o s, ?_, fun k => getLsbD_set8 b v, ?_⟩
  · exact written_modifyOperand8 s o fun v _ => (res8 b v, keepFlags)
  · exact within_modifyOperand8_keepFlags s o (res8 b)
  · exact written_modifyOperand8 s o fun v _ => (set8 b v, keepFlags)
  · exact within_modifyOperand8_keepFlags s o (set8 b)

end Sys2Proof.Machine

/-! PROOFS. The family 60_exceptions.md: the interrupt check, the dispatch and the return from it, the halted step, the fetch, and
the bounds of one iteration of the run loop. -/

namespace Sys2Proof.Machine

/-! ### The environment's turn (R410, R437, R450) -/

theorem State.environment_of_cons {s : State} {ev : EnvEvent} {later : List EnvEvent} (h : s.env = ev :: later) :
    s.environment = State.applyActions ev.actions (s.setEnv later) := by
  simp only [State.environment, h]

/-- What a turn with an event leaves in the two fields the environment may write. -/
theorem State.environment_event {s : State} {ev : EnvEvent} {later : List EnvEvent} (h : s.env = ev :: later) :
    (∀ i : Fin 5, s.environment.irqFlags.getLsbD i.val =
      (s.irqFlags.getLsbD i.val || decide (.raiseInterrupt i ∈ ev.actions))) ∧
    s.environment.speedSwitchPending = (s.speedSwitchPending || decide (.armSpeedSwitch ∈ ev.actions)) := by
  rw [State.environment_of_cons h]
  exact ⟨State.applyActions_irqFlags _ _, State.applyActions_speedSwitchPending _ _⟩

/-- Settles O53: a tick is time and then one turn; the frame is that of an internal step. -/
theorem environmentTurn : Obligations.EnvironmentTurn := by
  intro ev later s h t
  obtain ⟨hirq, hspeed⟩ := State.environment_event (s := s.spend (scaledTicks s.doubleSpeed 4)) h
  exact ⟨hirq, hspeed, by rw [State.tick_env, h]; rfl, within_internal s⟩

/-! ### The interrupt check (R421, R423, R424) -/

/-- Settles O56: the two cases of the interrupt check. -/
theorem lowestPendingIsDispatched : Obligations.LowestPendingIsDispatched := fun s =>
  ⟨fun i => s.interruptCheck_dispatch i, s.interruptCheck_none⟩

theorem State.setHalted_of_eq {s : State} {v : Bool} (h : s.halted = v) : s.setHalted v = s := by
  subst h
  rfl

theorem State.setIme_of_eq {s : State} {v w : Bool} (h : s.ime = v) (hnext : s.imeNext = w) : s.setIme v w = s := by
  subst h hnext
  rfl

/-- The interrupt check of a running core that dispatches nothing. -/
theorem State.interruptCheck_of_running {s : State} (hr : s.halted = false)
    (h : s.dispatchGate = false ∨ s.activeIrqs = 0#5) : s.interruptCheck = s.setIme s.imeNext s.imeNext := by
  rw [s.interruptCheck_none h, hr]
  exact State.setHalted_of_eq hr

theorem State.dispatchGate_doc {s : State} (h : s.params.eiDispatchOrder = .doc) : s.dispatchGate = s.imeNext := by
  simp only [State.dispatchGate, h]

theorem State.dispatchGate_late {s : State} (h : s.params.eiDispatchOrder = .late) : s.dispatchGate = s.ime := by
  simp only [State.dispatchGate, h]

/-- With both enables clear no order dispatches. -/
theorem State.dispatchGate_of_disabled {s : State} (h : s.ime = false) (hnext : s.imeNext = false) :
    s.dispatchGate = false := by
  cases hp : s.params.eiDispatchOrder with
  | doc => rw [State.dispatchGate_doc hp, hnext]
  | late => rw [State.dispatchGate_late hp, h]

/-! ### Dispatch (R422) -/

/-- A dispatch up to its push: the request and both enables cleared, three cycles of four passed in one turn. -/
def State.beforePush (s : State) (i : Fin 5) : State :=
  ((s.setIrqFlags (s.irqFlags &&& ~~~(1#5 <<< i.val))).setIme false false).tick 12

theorem State.dispatchInterrupt_eq (s : State) (i : Fin 5) :
    s.dispatchInterrupt i = ((s.beforePush i).push16 s.pc).setPc (vectorOf i) := by
  simp [State.dispatchInterrupt, State.beforePush]

theorem State.beforePush_sp (s : State) (i : Fin 5) : (s.beforePush i).sp = s.sp := by simp [State.beforePush]

theorem State.beforePush_env (s : State) (i : Fin 5) : (s.beforePush i).env = s.env.drop 1 := by simp [State.beforePush]

theorem State.turns_beforePush (s : State) (i : Fin 5) :
    Turns 1 (s.setIrqFlags (s.irqFlags &&& ~~~(1#5 <<< i.val))) (s.beforePush i) :=
  (State.turns_tick ((s.setIrqFlags _).setIme false false) 12).from ⟨rfl, rfl, rfl⟩

theorem notMem_pair {α : Type} {a b c : α} (h1 : a ≠ b) (h2 : a ≠ c) : a ∉ [b, c] := fun h =>
  (List.mem_pair.mp h).elim h1 h2

/-- The frame of the push and the jump to the vector. -/
theorem State.within_dispatchPush (s : State) (i : Fin 5) :
    Within { sp := true, pc := true, stores := [s.sp - 1, s.sp - 2], cycles := 8 } (s.beforePush i) (s.dispatchInterrupt i) := by
  have hpush := within_push16 (s.beforePush i) s.pc
  rw [State.beforePush_sp] at hpush
  rw [State.dispatchInterrupt_eq]
  exact (hpush.seq (within_setPc _ (vectorOf i)) (by simp) rfl).mono (by constructor <;> simp [Footprint.seq])

theorem vectorOf_toNat (i : Fin 5) : (vectorOf i).toNat = 0x40 + 8 * i.val := by
  revert i
  decide

@[simp] theorem State.dispatchInterrupt_sp (s : State) (i : Fin 5) : (s.dispatchInterrupt i).sp = s.sp - 2 := by
  simp [State.dispatchInterrupt]

@[simp] theorem State.dispatchInterrupt_env (s : State) (i : Fin 5) : (s.dispatchInterrupt i).env = s.env.drop 3 := by
  simp [State.dispatchInterrupt]

@[simp] theorem State.dispatchInterrupt_flags (s : State) (i : Fin 5) : (s.dispatchInterrupt i).flags = s.flags := by
  simp [State.dispatchInterrupt]

@[simp] theorem State.dispatchInterrupt_reg8 (s : State) (i : Fin 5) (r : Reg8) :
    (s.dispatchInterrupt i).reg8 r = s.reg8 r := by
  cases r <;> simp [State.reg8, State.dispatchInterrupt]

theorem State.dispatchInterrupt_byteAt (s : State) (i : Fin 5) {a : Word} (h1 : a ≠ s.sp - 1) (h2 : a ≠ s.sp - 2) :
    (s.dispatchInterrupt i).byteAt a = s.byteAt a := by
  rw [(s.within_dispatchPush i).memory a (notMem_pair h1 h2)]
  exact State.byteAt_congr (by simp [State.beforePush]) a

theorem State.dispatchInterrupt_irqEnable (s : State) (i : Fin 5) (h1 : s.sp - 1 ≠ ieAddr) (h2 : s.sp - 2 ≠ ieAddr) :
    (s.dispatchInterrupt i).irqEnable = s.irqEnable := by
  rw [(s.within_dispatchPush i).irqEnable (notMem_pair h1.symm h2.symm)]
  simp [State.beforePush]

/-- Where the push writes no IF, the environment has three turns on what the dispatch left of the requests. -/
theorem State.turns_dispatchInterrupt (s : State) (i : Fin 5) (h1 : s.sp - 1 ≠ ifAddr) (h2 : s.sp - 2 ≠ ifAddr) :
    Turns 3 (s.setIrqFlags (s.irqFlags &&& ~~~(1#5 <<< i.val))) (s.dispatchInterrupt i) := by
  have hpush := (s.within_dispatchPush i).turns (notMem_pair h1.symm h2.symm)
  exact (s.turns_beforePush i).trans (by simpa using hpush)

/-- PC is on the stack, high byte first. -/
theorem State.stored_dispatchInterrupt (s : State) (i : Fin 5) :
    Stored (s.sp - 1) (hiByte s.pc) 3 s (s.dispatchInterrupt i) ∧
    Stored (s.sp - 2) (loByte s.pc) 3 s (s.dispatchInterrupt i) := by
  have ⟨hhigh, hlow⟩ := stored_push16 (s.beforePush i) s.pc
  have henv : ((s.beforePush i).push16 s.pc).env = (s.beforePush i).env.drop 2 := State.push16_env ..
  have hpc := within_setPc ((s.beforePush i).push16 s.pc) (vectorOf i)
  rw [State.beforePush_sp] at hhigh hlow
  rw [State.dispatchInterrupt_eq]
  exact ⟨(hhigh.seq henv hpc (by simp)).after (m := 1) (s.beforePush_env i),
    (hlow.seq henv hpc (by simp)).after (m := 1) (s.beforePush_env i)⟩

/-- Settles O55: the frame of the push, after one turn on the cleared request. -/
theorem dispatchEntry : Obligations.DispatchEntry := by
  intro i s t cleared
  have hbefore := s.turns_beforePush i
  have hpush := s.within_dispatchPush i
  obtain ⟨hhigh, hlow⟩ := s.stored_dispatchInterrupt i
  obtain ⟨htimestamp, helapsed⟩ := s.dispatchInterrupt_clock i
  refine ⟨vectorOf_toNat i, s.dispatchInterrupt_ime i, s.dispatchInterrupt_imeNext i, s.dispatchInterrupt_sp i, hhigh, hlow,
    ?requests, s.dispatchInterrupt_irqEnable i, ?switchKept, ?switchQuiet, s.dispatchInterrupt_reg8 i,
    s.dispatchInterrupt_flags i, s.dispatchInterrupt_halted i, s.dispatchInterrupt_fault i, s.dispatchInterrupt_haltBugPending i,
    s.dispatchInterrupt_doubleSpeed i, s.dispatchInterrupt_params i, s.dispatchInterrupt_opcodePc i,
    fun _ => s.dispatchInterrupt_byteAt i, htimestamp, helapsed, s.dispatchInterrupt_env i⟩
  case requests =>
    intro h1 h2
    have hturns := s.turns_dispatchInterrupt i h1 h2
    exact ⟨hturns.irqFlagsKept, hturns.irqFlagsQuiet⟩
  case switchKept => exact fun h => hpush.speedSwitchKept (hbefore.speedSwitchKept h)
  case switchQuiet =>
    intro q
    have hrest : Quiet 2 (s.beforePush i).env := by
      rw [State.beforePush_env]
      exact Quiet.right (m := 1) q
    exact (hpush.speedSwitchQuiet (by simpa using hrest)).trans (hbefore.speedSwitchQuiet (Quiet.left (n := 2) q))

/-! ### The return from a dispatch (R302, R425, R426) -/

/-- Settles O59: on a RAM stack the return pops the bytes of PC the dispatch pushed, and neither writes a register or a flag. -/
theorem returnResumesTheInterruptedProgram : Obligations.ReturnResumesTheInterruptedProgram := by
  intro i s he h1 h2 h3 h4
  obtain ⟨hhigh, hlow⟩ := s.stored_dispatchInterrupt i
  obtain ⟨-, t, ht, hpc, hsp, hime, hnext, hframe, -⟩ := returnFromInterrupt (s.dispatchInterrupt i)
  have hup : s.sp - 2 + 1 = s.sp - 1 := by bv_omega
  have hdsp := s.dispatchInterrupt_sp i
  have hword : (s.dispatchInterrupt i).pop16.1 = s.pc := by
    rw [State.pop16_plain (by simp [he]) (by rwa [hdsp]) (by rwa [hdsp]) (by rwa [hdsp, hup]) (by rwa [hdsp, hup]), hdsp, hup,
      hhigh.bus h1 h2, hlow.bus h3 h4, wordOf_hiByte_loByte]
  refine ⟨t, ht, hpc.trans hword, ?_, fun r => ?_, ?_, hime, hnext⟩
  · rw [hsp, hdsp]
    exact BitVec.sub_add_cancel s.sp 2
  · rw [hframe.regs r (by simp), State.dispatchInterrupt_reg8]
  · rw [hframe.flags rfl, State.dispatchInterrupt_flags]

/-! ### The EI window (R421, R424; 70_reset_and_hazards.md R470) -/

/-- The state after EI was fetched from plain RAM and run with `ime` clear. -/
def State.afterEi (s : State) : State :=
  (((s.spend (scaledTicks s.doubleSpeed 4)).setOpcodePc s.pc).setPc (s.pc + 1)).setIme false true

/-- EI, fetched from plain RAM by a running core with both enables clear: only the fetch and `ime_next`. -/
theorem step_of_ei {s : State} (hs : Safe s) (hr : s.halted = false) (hb : s.haltBugPending = false) (he : s.env = [])
    (hime : s.ime = false) (hnext : s.imeNext = false) (hf : s.pc ≠ ifAddr) (hi : s.pc ≠ ieAddr)
    (hop : s.byteAt s.pc = 0xFB#8) :
    step s = .next s.afterEi := by
  have hcheck : s.interruptCheck = s := by
    rw [State.interruptCheck_of_running hr (.inl (State.dispatchGate_of_disabled hime hnext)), hnext]
    exact State.setIme_of_eq hime hnext
  have hread : (s.memRead s.pc).1 = 0xFB#8 := by rw [State.memRead_plain he hf hi, hop]
  rw [step_of_running hs (by rw [hcheck, hr]), hcheck, State.fetchDecodeExecute,
    State.fetchInstr_of_plain (i := .ei) hread rfl, State.fetchOpcode_plain he hf hi hb, exec_ei]
  simp [runEi, State.afterEi, hime]

/-- Settles O57: after EI `ime_next` alone is set, which opens the gate of the DOC order and not of the LATE order. -/
theorem eiWindowInBothOrders : Obligations.EiWindowInBothOrders := by
  intro s i hs hr hb he hime hnext hf hi hop hpending hlowest
  refine ⟨_, step_of_ei hs hr hb he hime hnext hf hi hop, rfl, rfl, rfl, fun hdoc => ?_, fun hlate => ?_⟩
  · have hcheck := State.interruptCheck_dispatch _ i ((State.dispatchGate_doc (s := s.afterEi) hdoc).trans rfl) hpending hlowest
    rwa [State.setHalted_of_eq (s := s.afterEi) hr] at hcheck
  · exact State.interruptCheck_of_running hr (.inl (State.dispatchGate_late hlate))

/-! ### The halted step (R431, R441, R443) -/

/-- The scheduler's answer changes the count of draws at most. -/
theorem State.schedulerAnswer_state (s : State) : ∃ d, s.schedulerAnswer.2 = { s with draws := d } := by
  unfold State.schedulerAnswer
  split
  · exact ⟨s.draws, rfl⟩
  · exact ⟨s.draws + 1, rfl⟩

theorem State.schedulerAnswer_of_schedule {s : State} {ev : EnvEvent} {later : List EnvEvent} {n : BitVec 32}
    (h : s.env = ev :: later) (hn : ev.schedule = some n) : s.schedulerAnswer.1 = n := by
  obtain ⟨answer, schedule, actions⟩ := ev
  obtain rfl : schedule = some n := hn
  simp only [State.schedulerAnswer, h]

theorem State.schedulerAnswer_of_no_schedule {s : State} {ev : EnvEvent} {later : List EnvEvent} (h : s.env = ev :: later)
    (hn : ev.schedule = none) : s.schedulerAnswer.1 = Config.schedulerAnswer s.draws := by
  obtain ⟨answer, schedule, actions⟩ := ev
  obtain rfl : schedule = none := hn
  simp only [State.schedulerAnswer, h]

theorem State.schedulerAnswer_of_nil {s : State} (h : s.env = []) :
    s.schedulerAnswer.1 = Config.schedulerAnswer s.draws := by
  simp only [State.schedulerAnswer, h]

/-- A budget that leaves 2^32 cycles cuts no fast-forward short (log 11). -/
theorem State.fastForward_whole (s : State) :
    s.fastForward (s.elapsed + 0x100000000) = (s.schedulerAnswer.2.spend s.schedulerAnswer.1.toNat).environment := by
  have hlt : s.schedulerAnswer.1.toNat < 0x100000000 := s.schedulerAnswer.1.isLt
  rw [State.fastForward, Nat.add_sub_cancel_left, Nat.min_eq_right hlt.le]

theorem step_of_halted {s : State} (hs : Safe s) (hh : s.halted = true) (h : s.activeIrqs = 0#5) :
    step s = .next ((s.setIme s.imeNext s.imeNext).fastForward (s.elapsed + 0x100000000)) := by
  have hcheck : s.interruptCheck = s.setIme s.imeNext s.imeNext := by
    rw [s.interruptCheck_none (.inr h), hh, h]
    exact State.setHalted_of_eq hh
  simp only [step, hs, loopIteration, hcheck, State.setIme_halted, hh]

/-- Settles O58: the whole answer of the scheduler passes, then the environment has one turn; both leave the rest. -/
theorem haltedStepOnlyWaits : Obligations.HaltedStepOnlyWaits := by
  intro s hs hh h
  let s1 := s.setIme s.imeNext s.imeNext
  let k := s1.schedulerAnswer.1.toNat
  obtain ⟨d, hd⟩ := s1.schedulerAnswer_state
  have hstep : step s = .next (({ s1 with draws := d }.spend k).environment) := by
    rw [step_of_halted hs hh h, ← hd]
    exact congrArg _ s1.fastForward_whole
  have hturn := State.turns_environment ({ s1 with draws := d }.spend k)
  refine ⟨_, k, hstep, (State.environment_halted _).trans hh, State.environment_pc _, State.environment_sp _, ?regs,
    State.environment_flags _, State.environment_mem _, State.environment_irqEnable _, (State.environment_fault _).trans hs,
    State.environment_doubleSpeed _, State.environment_ime _, State.environment_imeNext _, State.environment_haltBugPending _,
    State.environment_params _, State.environment_opcodePc _, fun _ _ henv => State.environment_event henv,
    fun q => ⟨hturn.irqFlagsQuiet q, hturn.speedSwitchQuiet q⟩, State.environment_env _, State.environment_timestamp _,
    State.environment_elapsed _, ?scripted, ?unscripted, ?empty⟩
  case regs =>
    intro r
    cases r <;> simp [State.reg8, State.spend, s1]
  case scripted => exact fun _ _ _ henv hn => congrArg BitVec.toNat (State.schedulerAnswer_of_schedule (s := s1) henv hn)
  case unscripted => exact fun _ _ henv hn => congrArg BitVec.toNat (State.schedulerAnswer_of_no_schedule (s := s1) henv hn)
  case empty => exact fun henv => congrArg BitVec.toNat (State.schedulerAnswer_of_nil (s := s1) henv)

/-! ### The fetch (R443 to R445) -/

/-- Settles O5: the fetched instruction is the decoded one. -/
theorem stepRunsDecodedInstruction : Obligations.StepRunsDecodedInstruction := by
  intro s i rest hs hr hd
  rw [step_of_running hs hr, State.fetchDecodeExecute, State.fetchInstr_eq _ i rest hd]

/-- How far PC lags in the fetch right after a buggy HALT (R444). -/
def State.fetchLag (s : State) : Word := if s.params.haltBug && s.haltBugPending then 1 else 0

/-- The state after the fetch of `n` bytes from a plain RAM bus. -/
def State.plainFetch (s : State) (n : Nat) : State :=
  { s with
    haltBugPending := s.haltBugPending && !s.params.haltBug
    opcodePc := s.pc
    pc := s.pc + BitVec.ofNat 16 n - s.fetchLag
    timestamp := s.timestamp + scaledTicks s.doubleSpeed (4 * n)
    elapsed := s.elapsed + scaledTicks s.doubleSpeed (4 * n) }

theorem State.fetchOpcode_eq_plainFetch {s : State} (he : s.env = []) (hf : s.pc ≠ ifAddr) (hi : s.pc ≠ ieAddr) :
    s.fetchOpcode = (s.byteAt s.pc, s.plainFetch 1) := by
  have hpc : (if s.params.haltBug && s.haltBugPending then s.pc else s.pc + 1) = s.pc + BitVec.ofNat 16 1 - s.fetchLag := by
    unfold State.fetchLag
    split_ifs
    · exact (BitVec.add_sub_cancel ..).symm
    · exact (BitVec.sub_zero _).symm
  rw [State.fetchOpcode_eq, State.memRead_plain_eq he hf hi, hpc]
  rfl

theorem State.fetch8_plainFetch {s : State} {n : Nat} (he : s.env = []) (hf : (s.plainFetch n).pc ≠ ifAddr)
    (hi : (s.plainFetch n).pc ≠ ieAddr) :
    (s.plainFetch n).fetch8 = (s.byteAt (s.plainFetch n).pc, s.plainFetch (n + 1)) := by
  have hticks := scaledTicks_add s.doubleSpeed (Nat.mul_mod_right 4 n) (n := 4) rfl
  have hpc : (s.plainFetch n).pc + 1 = s.pc + BitVec.ofNat 16 (n + 1) - s.fetchLag := by
    simp only [State.plainFetch, BitVec.ofNat_add]
    bv_omega
  rw [State.fetch8_plain (s := s.plainFetch n) he hf hi, hpc]
  simp only [State.plainFetch, State.spend, State.setPc, Nat.add_assoc, hticks]
  rfl

/-- The bytes after the opcode are read within the three bytes at PC. -/
theorem State.plainFetch_pc_mem {s : State} {n : Nat} (hn : 0 < n ∧ n < 3) :
    ∃ k < 3, (s.plainFetch n).pc = s.pc + BitVec.ofNat 16 k := by
  simp only [State.plainFetch, State.fetchLag]
  split_ifs
  · exact ⟨n - 1, by omega, by bv_omega⟩
  · exact ⟨n, hn.2, BitVec.sub_zero _⟩

section PlainBytes

variable {s : State} (he : s.env = [])
  (hplain : ∀ k < 3, s.pc + BitVec.ofNat 16 k ≠ ifAddr ∧ s.pc + BitVec.ofNat 16 k ≠ ieAddr)
include he hplain

theorem State.fetchOpcode_of_plainBytes : s.fetchOpcode = (s.byteAt s.pc, s.plainFetch 1) := by
  obtain ⟨hf, hi⟩ := hplain 0 (by decide)
  rw [show s.pc + BitVec.ofNat 16 0 = s.pc from BitVec.add_zero _] at hf hi
  exact State.fetchOpcode_eq_plainFetch he hf hi

theorem State.fetch8_of_plainBytes {n : Nat} (hn : 0 < n ∧ n < 3) :
    (s.plainFetch n).fetch8 = (s.byteAt (s.plainFetch n).pc, s.plainFetch (n + 1)) := by
  obtain ⟨k, hk, hpc⟩ := State.plainFetch_pc_mem (s := s) hn
  obtain ⟨hf, hi⟩ := hplain k hk
  exact State.fetch8_plainFetch he (hpc ▸ hf) (hpc ▸ hi)

theorem State.answeredBytes_of_plainBytes :
    s.answeredBytes = [s.byteAt s.pc, s.byteAt (s.pc + 1 - s.fetchLag), s.byteAt (s.pc + 2 - s.fetchLag)] := by
  have h1 := State.fetch8_of_plainBytes he hplain (n := 1) (by decide)
  have h2 := State.fetch8_of_plainBytes he hplain (n := 2) (by decide)
  simp only [State.answeredBytes, State.fetchOpcode_of_plainBytes he hplain, h1, h2]
  rfl

theorem State.afterFetch_of_plainBytes {n : Nat} (hn : n < 3) : s.afterFetch (n + 1) = s.plainFetch (n + 1) := by
  induction n with
  | zero => exact congrArg Prod.snd (State.fetchOpcode_of_plainBytes he hplain)
  | succ n ih =>
    rw [State.afterFetch, ih (by omega), State.fetch8_of_plainBytes he hplain ⟨n.succ_pos, hn⟩]

end PlainBytes

theorem encode_ne_nil {i : Instr} (hw : WellFormed i = true) : encode i ≠ [] := by
  intro h
  have := decodeOfEncode i [] hw
  rw [h] at this
  cases this

/-- An instruction decoded from three bytes reads one, two or three of them. -/
theorem bytesRead_of_decode {b0 b1 b2 : Byte} {i : Instr} {rest : List Byte} (h : decode [b0, b1, b2] = .instr i rest) :
    ∃ n < 3, bytesRead i = n + 1 := by
  obtain ⟨j, rest', hj, hw, hlen, -⟩ := decodeIsTotal b0 b1 b2 []
  obtain ⟨rfl, rfl⟩ : j = i ∧ rest' = rest := by simpa [h, eq_comm] using hj
  by_cases hs : j = .stop
  · exact ⟨0, by decide, if_pos hs⟩
  · have hpos : 0 < instrLength j := List.length_pos_iff.mpr (encode_ne_nil hw)
    have hle : instrLength j ≤ 3 := (Nat.le_add_left _ rest'.length).trans_eq hlen
    exact ⟨instrLength j - 1, by omega, by rw [bytesRead, if_neg hs]; omega⟩

/-- Settles O6: nothing is dispatched, and every byte is fetched from plain RAM. -/
theorem stepOnPlainBus : Obligations.StepOnPlainBus := by
  intro s i rest hs hr hactive he hplain lag hd
  obtain ⟨n, hn, hread⟩ := bytesRead_of_decode hd
  have hcheck := State.interruptCheck_of_running hr (.inr hactive)
  have hbytes := State.answeredBytes_of_plainBytes (s := s.setIme s.imeNext s.imeNext) he hplain
  have hfetch := State.afterFetch_of_plainBytes (s := s.setIme s.imeNext s.imeNext) he hplain hn
  rw [stepRunsDecodedInstruction s i rest hs (by rw [hcheck]; exact hr) (by rw [hcheck, hbytes]; exact hd), hcheck, hread, hfetch]
  rfl

/-! ### Time in one iteration of the run loop (R443; 20_memory.md R73) -/

/-- `t` is reached from `s` in at most `n` cycles of one clock, with the parameters kept. -/
structure Passes (n : Nat) (s t : State) : Prop where
  params : t.params = s.params
  clock : ∃ k ≤ n, t.timestamp = s.timestamp + k ∧ t.elapsed = s.elapsed + k

theorem Passes.trans {m n : Nat} {s t u : State} (h1 : Passes m s t) (h2 : Passes n t u) : Passes (m + n) s u where
  params := h2.params.trans h1.params
  clock := by
    obtain ⟨j, hj, a, b⟩ := h1.clock
    obtain ⟨k, hk, c, d⟩ := h2.clock
    exact ⟨j + k, Nat.add_le_add hj hk, by omega, by omega⟩

theorem Passes.mono {m n : Nat} {s t : State} (h : Passes m s t) (hle : m ≤ n) : Passes n s t :=
  { h with clock := h.clock.imp fun _ ⟨hk, e⟩ => ⟨hk.trans hle, e⟩ }

theorem Passes.elapsed_le {n : Nat} {s t : State} (h : Passes n s t) : s.elapsed ≤ t.elapsed ∧ t.elapsed ≤ s.elapsed + n := by
  obtain ⟨k, hk, -, he⟩ := h.clock
  omega

theorem Keeps.passes {n : Nat} {s t : State} (h : Keeps n s t) : Passes n s t := ⟨h.params, h.clock⟩

theorem State.passes_interruptCheck (s : State) : Passes 20 s s.interruptCheck := by
  obtain ⟨-, i, hi⟩ | hi := s.interruptCheck_cases
  · have hk := (keeps_dispatchInterrupt (s.setHalted false) i).passes
    rw [hi]
    exact ⟨hk.params, hk.clock⟩
  · rw [hi]
    exact ⟨rfl, 0, by decide, rfl, rfl⟩

/-- The result is a next state, reached in at most `n` cycles. -/
def Continues (n : Nat) (s : State) (r : Result) : Prop := ∃ t, r = .next t ∧ Passes n s t

theorem Continues.after {m n : Nat} {s u : State} {r : Result} (h : Continues n u r) (hu : Passes m s u) :
    Continues (m + n) s r :=
  h.imp fun _ ⟨hr, ht⟩ => ⟨hr, hu.trans ht⟩

theorem Continues.mono {m n : Nat} {s : State} {r : Result} (h : Continues m s r) (hle : m ≤ n) : Continues n s r :=
  h.imp fun _ ⟨hr, ht⟩ => ⟨hr, ht.mono hle⟩

theorem Continues.ofKeeps {m n : Nat} {s t : State} {r : Result} (hr : r = .next t) (h : Keeps m s t)
    (hle : m ≤ n := by decide) : Continues n s r :=
  ⟨t, hr, h.passes.mono hle⟩

theorem exec_continues (i : Instr) (s : State) : Continues 20 s (exec i s) := by
  obtain ⟨t, he, ha⟩ := answers_of_row i s
  obtain ⟨hparams, hclock⟩ := ha.params_and_clock
  exact ⟨t, he, hparams, hclock⟩

/-- A row's meaning takes what its fetch leaves of 24 cycles, the longest instruction (70_reset_and_hazards.md R481). -/
def Row.Fits : Row → Prop
  | .plain i => ∀ s, Continues 20 s (exec i s)
  | .skipping i => ∀ s, Continues 20 s (exec i s)
  | .imm8 f => ∀ n8 s, Continues 16 s (exec (f n8) s)
  | .imm16 f => ∀ n16 s, Continues 12 s (exec (f n16) s)
  | .cbEscape => ∀ op2 s, Continues 16 s (exec (cbInstr op2) s)

theorem fits_plain (i : Instr) : Row.Fits (.plain i) := exec_continues i

theorem fits_ldN8 (o : Operand8) : Row.Fits (.imm8 (instrLdN8 o)) := fun n8 s =>
  .ofKeeps (exec_instrLdN8 o n8 s) (keeps_writeOperand8 s o n8)

theorem block0Row_fits (op : Byte) : Row.Fits (block0Row op) := by
  unfold block0Row
  cases opZ op with
  | f0 =>
    cases opY op with
    | f0 => exact fits_plain _
    | f1 => exact fun n16 s => .ofKeeps (exec_ldAtN16Sp n16 s) ((keeps_memWrite s _ _).trans (keeps_memWrite _ _ _))
    | f2 => exact exec_continues _
    | f3 => exact fun e8 s => .ofKeeps (exec_jrE8 e8 s) (keeps_runJr s e8)
    | _ =>
      exact fun e8 s => .ofKeeps (exec_instrJrCc _ e8 s) (.ite _ (keeps_runJr s e8) ((keeps_refl s).mono (by decide)))
  | f1 =>
    cases opQ op with
    | false => exact fun n16 s => .ofKeeps (exec_instrLdR16N16 _ n16 s) (keeps_setR16 s _ n16)
    | true => exact fits_plain _
  | f2 => cases opQ op <;> exact fits_plain _
  | f3 => cases opQ op <;> exact fits_plain _
  | f4 => cases r8Table (opY op) <;> exact fits_plain _
  | f5 => cases r8Table (opY op) <;> exact fits_plain _
  | f6 =>
    cases r8Table (opY op) with
    | reg r => exact fits_ldN8 (.reg r)
    | atHl => exact fits_ldN8 .atHl
  | f7 => cases opY op <;> exact fits_plain _

theorem block1Row_fits (op : Byte) : Row.Fits (block1Row op) := by
  unfold block1Row
  cases r8Table (opY op) <;> cases r8Table (opZ op) <;> exact fits_plain _

theorem block2Row_fits (op : Byte) : Row.Fits (block2Row op) := by
  unfold block2Row
  cases r8Table (opZ op) <;> exact fits_plain _

theorem block3Row_fits (op : Byte) : Row.Fits (block3Row op) := by
  unfold block3Row
  cases opZ op with
  | f0 =>
    cases opY op with
    | f4 => exact fun n8 s => .ofKeeps (exec_ldhAtN8A n8 s) (keeps_memWrite s _ _)
    | f5 =>
      exact fun e8 s => .ofKeeps (exec_addSpE8 e8 s)
        ((keeps_internal s).trans ((keeps_internal _).trans ((keeps_setSp _ _).trans (keeps_applyFlags _ _))))
    | f6 => exact fun n8 s => .ofKeeps (exec_ldhAAtN8 n8 s) (keeps_loadA s _)
    | f7 =>
      exact fun e8 s => .ofKeeps (exec_ldHlSpE8 e8 s)
        ((keeps_internal s).trans ((keeps_setR16 _ .hl _).trans (keeps_applyFlags _ _)))
    | _ => exact fits_plain _
  | f1 => cases opQ op <;> cases opP op <;> exact fits_plain _
  | f2 =>
    cases opY op with
    | f4 => exact fits_plain _
    | f5 => exact fun n16 s => .ofKeeps (exec_ldAtN16A n16 s) (keeps_memWrite s _ _)
    | f6 => exact fits_plain _
    | f7 => exact fun n16 s => .ofKeeps (exec_ldAAtN16 n16 s) (keeps_loadA s n16)
    | _ =>
      exact fun n16 s => .ofKeeps (exec_instrJpCc _ n16 s) (.ite _ (keeps_runJp s n16) ((keeps_refl s).mono (by decide)))
  | f3 =>
    cases opY op with
    | f0 => exact fun n16 s => .ofKeeps (exec_jpN16 n16 s) (keeps_runJp s n16)
    | f1 =>
      intro op2 s
      obtain ⟨t, ht, hk⟩ := exec_cbInstr_keeps op2 s
      exact .ofKeeps ht hk
    | _ => exact fits_plain _
  | f4 =>
    cases opY op with
    | f0 | f1 | f2 | f3 =>
      exact fun n16 s => .ofKeeps (exec_instrCallCc _ n16 s) (.ite _ (keeps_runCall s n16) ((keeps_refl s).mono (by decide)))
    | _ => exact fits_plain _
  | f5 =>
    cases opQ op with
    | false => exact fits_plain _
    | true =>
      cases opP op with
      | f0 => exact fun n16 s => .ofKeeps (exec_callN16 n16 s) (keeps_runCall s n16)
      | _ => exact fits_plain _
  | f6 => exact fun n8 s => .ofKeeps (exec_instrAluN8 _ n8 s) (keeps_aluA s _ n8)
  | f7 => exact fits_plain _

theorem primaryRow_fits (op : Byte) : Row.Fits (primaryRow op) := by
  unfold primaryRow
  cases opBlock op with
  | f0 => exact block0Row_fits op
  | f1 => exact block1Row_fits op
  | f2 => exact block2Row_fits op
  | f3 => exact block3Row_fits op

theorem State.passes_fetchOpcode (s : State) : Passes 4 s s.fetchOpcode.2 :=
  ⟨(keeps_fetchOpcode s).params, (keeps_fetchOpcode s).clock⟩

/-- One instruction takes at most 24 cycles, its fetch included. -/
theorem State.fetchDecodeExecute_continues (s : State) : Continues 24 s s.fetchDecodeExecute := by
  have hop := s.passes_fetchOpcode
  have hfits := primaryRow_fits s.fetchOpcode.1
  dsimp only [State.fetchDecodeExecute, State.fetchInstr]
  cases hrow : primaryRow s.fetchOpcode.1 with rw [hrow] at hfits
  | plain i => exact (hfits _).after hop
  | skipping i => exact (hfits _).after hop
  | imm8 f => exact (hfits _ _).after (hop.trans (keeps_fetch8 _).passes)
  | imm16 f => exact (hfits _ _).after (hop.trans (keeps_fetch16 _).passes)
  | cbEscape => exact (hfits _ _).after (hop.trans (keeps_fetch8 _).passes)

/-- One iteration: an interrupt check of at most 20 cycles, then one instruction or what is left of the budget. -/
theorem loopIteration_continues (budget : Nat) (s : State) :
    Continues (20 + max 24 (budget - s.elapsed)) s (loopIteration budget s) := by
  have hcheck := s.passes_interruptCheck
  have hmono := hcheck.elapsed_le.1
  cases hr : s.interruptCheck.halted with
  | true =>
    simp only [loopIteration, hr]
    exact (Continues.ofKeeps rfl (keeps_fastForward budget _) (by omega)).after hcheck
  | false =>
    simp only [loopIteration, hr]
    exact (s.interruptCheck.fetchDecodeExecute_continues.mono (Nat.le_max_left ..)).after hcheck

/-- Settles O9: a faulted core answers its condition, any other one iteration of the run loop, which answers a next state. -/
theorem stepStopsExactlyWhenFaulted : Obligations.StepStopsExactlyWhenFaulted := by
  intro s
  cases hs : s.fault with
  | some k =>
    rw [step_of_faulted hs]
    exact ⟨by simp, by simp, fun h => absurd (hs.symm.trans h) (by simp)⟩
  | none =>
    obtain ⟨t, ht, hparams, n, -, hclock⟩ := loopIteration_continues (s.elapsed + 0x100000000) s
    have hstep : step s = .next t := by simp only [step, hs, ht]
    rw [hstep]
    exact ⟨by simp, by simp, fun _ => ⟨t, rfl, hparams, n, hclock⟩⟩

/-! ### The run (R443, R446) -/

theorem runLoop_of_done {budget : Nat} {s : State} (h : runDone budget s = true) (fuel : Nat) :
    runLoop fuel budget s = .next s := by
  cases fuel with
  | zero => rfl
  | succ fuel => simp only [runLoop, h]

/-- The loop begins an iteration below its budget only, and one iteration passes the budget by at most 43 cycles. -/
theorem runLoop_elapsed_le (fuel budget : Nat) (s : State) (h : s.elapsed ≤ budget + 43) :
    ∃ t, runLoop fuel budget s = .next t ∧ t.elapsed ≤ budget + 43 := by
  induction fuel generalizing s with
  | zero => exact ⟨s, rfl, h⟩
  | succ fuel ih =>
    cases hdone : runDone budget s with
    | true => exact ⟨s, runLoop_of_done hdone _, h⟩
    | false =>
      have hbelow : s.elapsed < budget := by
        simp only [runDone, Bool.or_eq_false_iff, decide_eq_false_iff_not] at hdone
        omega
      obtain ⟨u, hu, hpasses⟩ := loopIteration_continues budget s
      have hle := hpasses.elapsed_le.2
      obtain ⟨t, ht, hbound⟩ := ih u (by omega)
      exact ⟨t, by simp only [runLoop, hdone, hu, ht], hbound⟩

/-- Settles O60: the loop is done at once in the first clause, and keeps its bound in the second. -/
theorem runReturns : Obligations.RunReturns := by
  intro fuel budget s
  refine ⟨fun h => runLoop_of_done ?_ fuel, runLoop_elapsed_le fuel budget _ (Nat.zero_le _)⟩
  simp only [runDone, Bool.or_eq_true, decide_eq_true_eq]
  rcases h with h | h
  · exact .inr (Option.isSome_iff_ne_none.mpr h)
  · exact .inl h.le

end Sys2Proof.Machine

/-! PROOFS. The family 70_reset_and_hazards.md: the host's reset, and the cycle table. A row's cycles beyond
its fetch are those of its frame; with 4 for each byte fetched they are the table's entry at the row's bytes. -/

namespace Sys2Proof.Machine

/-! ### The host's reset (R460) -/

/-- Settles O12: the host's reset writes the reset state of the machine's own parameters, but for memory and the world outside. -/
theorem hostResetRestoresTheCore : Obligations.HostResetRestoresTheCore := by
  intro ie iflag s t
  obtain ⟨hpc, hsp, -, -, hflags, hbc, hde, hhl, hime, hnext, hhalted, hspeed, hswitch, htime, hie, hif, hfault, hbug⟩ :=
    resetState s.params ie iflag
  exact ⟨hfault, hhalted, hpc, hsp, hime, hnext, hspeed, hswitch, htime, hbug, hie, hif, hflags, hbc, hde, hhl,
    a_resetWith s.params ie iflag, State.byteAt_congr rfl, rfl⟩

/-! ### The cycles of a row's meaning, and of its fetch -/

/-- `t` is `n` cycles after `s`, at the speed `s` has (20_memory.md R73). -/
structure Spends (n : Nat) (s t : State) : Prop where
  timestamp : t.timestamp = s.timestamp + scaledTicks s.doubleSpeed n
  elapsed : t.elapsed = s.elapsed + scaledTicks s.doubleSpeed n

theorem Within.spends {f : Footprint} {s t : State} (h : Within f s t) : Spends f.cycles s t := ⟨h.timestamp, h.elapsed⟩

/-- A piece that leaves both counters alone. -/
theorem Spends.instant {s t : State} (ht : t.timestamp = s.timestamp) (he : t.elapsed = s.elapsed) : Spends 0 s t :=
  ⟨by rw [ht, scaledTicks_zero, Nat.add_zero], by rw [he, scaledTicks_zero, Nat.add_zero]⟩

/-- One piece after another that kept the speed. -/
theorem Spends.trans {m n : Nat} {s t u : State} (h1 : Spends m s t) (h2 : Spends n t u) (hspeed : t.doubleSpeed = s.doubleSpeed)
    (hm : m % 4 = 0) (hn : n % 4 = 0) : Spends (m + n) s u where
  timestamp := by rw [h2.timestamp, h1.timestamp, hspeed, Nat.add_assoc, scaledTicks_add _ hm hn]
  elapsed := by rw [h2.elapsed, h1.elapsed, hspeed, Nat.add_assoc, scaledTicks_add _ hm hn]

/-- STOP spends no time beyond its fetch, also where it switches the speed (41_block0.md R230). -/
theorem spends_runStop (s : State) : Spends 0 s (runStop s) := by
  cases h : s.speedSwitchPending with
  | true =>
    rw [runStop_of_pending h]
    exact .instant rfl rfl
  | false =>
    rw [runStop_of_not_pending h]
    exact .instant rfl rfl

theorem spends_runHalt (s : State) : Spends 0 s (runHalt s) := by
  unfold runHalt
  split
  · exact .instant rfl rfl
  · exact .instant rfl rfl

@[simp] theorem State.afterFetch_flags (s : State) : ∀ n, (s.afterFetch n).flags = s.flags
  | 0 => rfl
  | 1 => s.fetchOpcode_state_flags
  | n + 2 => by rw [State.afterFetch, State.fetch8_state_flags, State.afterFetch_flags s (n + 1)]

@[simp] theorem State.afterFetch_doubleSpeed (s : State) : ∀ n, (s.afterFetch n).doubleSpeed = s.doubleSpeed
  | 0 => rfl
  | 1 => s.fetchOpcode_state_doubleSpeed
  | n + 2 => by rw [State.afterFetch, State.fetch8_state_doubleSpeed, State.afterFetch_doubleSpeed s (n + 1)]

/-- Each byte of a fetch is one read (60_exceptions.md R444, R445). -/
theorem spends_afterFetch (s : State) : ∀ n, Spends (4 * n) s (s.afterFetch n)
  | 0 => .instant rfl rfl
  | 1 => ⟨s.fetchOpcode_state_timestamp, s.fetchOpcode_state_elapsed⟩
  | n + 2 =>
    (spends_afterFetch s (n + 1)).trans (within_fetch8 _).spends (s.afterFetch_doubleSpeed (n + 1)) (Nat.mul_mod_right 4 _) rfl

/-! ### The cycle table, by instruction (R481) -/

/-- The table's entry at the bytes of an instruction. -/
def tableCycles (i : Instr) (f : Flags) : Nat := cycleCount ((encode i).getD 0 0x00#8) ((encode i).getD 1 0x00#8) f

/-- Every entry of the table is a whole number of ticks (R480, R481). -/
theorem cycleCount_mod (op op2 : Byte) (f : Flags) : cycleCount op op2 f % 4 = 0 := by
  have hcb : cbCycles op2 % 4 = 0 := by
    unfold cbCycles
    split_ifs <;> rfl
  have htaken : ∀ op : Byte, cyclesTaken.getD op.toNat 0 % 4 = 0 := by decide
  have hnot : ∀ (op : Byte), ∀ entry ∈ notTakenCycles op, entry.2 % 4 = 0 := by decide
  unfold cycleCount
  split_ifs
  · exact hcb
  · split
    next cc n hentry =>
      split_ifs
      · exact htaken op
      · exact hnot op _ hentry
    next => exact htaken op

/-- The second byte selects an entry after 0xCB only. -/
theorem cycleCount_primary {op : Byte} (h : op ≠ 0xCB#8) (op2 op2' : Byte) (f : Flags) :
    cycleCount op op2 f = cycleCount op op2' f := by
  rw [cycleCount, if_neg h, cycleCount, if_neg h]

/-- The entry at the bytes a fetch is answered is the entry of the instruction they decode to; STOP's second byte is skipped. -/
theorem cycleCount_of_decode {op op2 op3 : Byte} {i : Instr} {rest : List Byte} (h : decode [op, op2, op3] = .instr i rest)
    (f : Flags) : cycleCount op op2 f = tableCycles i f := by
  cases hr : primaryRow op with
  | plain j =>
    obtain ⟨rfl, -⟩ : j = i ∧ _ := by simpa [decode_plain hr] using h
    have hop : op ≠ 0xCB#8 := by
      rintro rfl
      cases hr
    rw [tableCycles, (row_plain hr).1]
    exact cycleCount_primary hop ..
  | skipping j =>
    obtain ⟨rfl, -⟩ : j = i ∧ _ := by simpa [decode_skipping hr] using h
    obtain ⟨rfl, rfl⟩ := row_skip hr
    rfl
  | imm8 g =>
    obtain ⟨rfl, -⟩ : g op2 = i ∧ _ := by simpa [decode_imm8 hr] using h
    rw [tableCycles, (row_imm8 op g hr op2).1]
    rfl
  | imm16 g =>
    obtain ⟨rfl, -⟩ : g (wordOf op3 op2) = i ∧ _ := by simpa [decode_imm16 hr] using h
    rw [tableCycles, (row_imm16 op g hr _).1, loByte_wordOf]
    rfl
  | cbEscape =>
    obtain ⟨rfl, -⟩ : cbInstr op2 = i ∧ _ := by simpa [decode_cbEscape hr] using h
    rw [tableCycles, encode_cbInstr, row_cb hr]
    rfl

/-! ### Each row takes the table's cycles -/

/-- The row answers a next state after the table's cycles, 4 for each byte its fetch reads and the rest in its meaning. -/
def TakesTableCycles (i : Instr) (s : State) : Prop :=
  ∃ t n, exec i s = .next t ∧ Spends n s t ∧ 4 * bytesRead i + n = tableCycles i s.flags

theorem TakesTableCycles.ofFrame {i : Instr} {s t : State} {f : Footprint} (ht : exec i s = .next t) (hframe : Within f s t)
    (htable : 4 * bytesRead i + f.cycles = tableCycles i s.flags := by rfl) : TakesTableCycles i s :=
  ⟨t, _, ht, hframe.spends, htable⟩

/-- A row that spends its fetch only. -/
theorem TakesTableCycles.ofInstant {i : Instr} {s t : State} (ht : exec i s = .next t) (hspends : Spends 0 s t)
    (htable : 4 * bytesRead i = tableCycles i s.flags := by rfl) : TakesTableCycles i s :=
  ⟨t, 0, ht, hspends, htable⟩

/-! ### The rows with an operand of the R8 table -/

theorem tableCycles_inc8 (o : Operand8) (f : Flags) :
    4 * bytesRead (instrInc8 o) + 2 * o.cycles = tableCycles (instrInc8 o) f := by
  cases o with
  | reg r => cases r <;> rfl
  | atHl => rfl

theorem tableCycles_dec8 (o : Operand8) (f : Flags) :
    4 * bytesRead (instrDec8 o) + 2 * o.cycles = tableCycles (instrDec8 o) f := by
  cases o with
  | reg r => cases r <;> rfl
  | atHl => rfl

theorem tableCycles_ldN8 (o : Operand8) (n8 : Byte) (f : Flags) :
    4 * bytesRead (instrLdN8 o n8) + o.cycles = tableCycles (instrLdN8 o n8) f := by
  cases o with
  | reg r => cases r <;> rfl
  | atHl => rfl

theorem tableCycles_alu (op : AluOp) (o : Operand8) (f : Flags) :
    4 * bytesRead (instrAlu op o) + o.cycles = tableCycles (instrAlu op o) f := by
  cases o with
  | reg r => cases op <;> cases r <;> rfl
  | atHl => cases op <;> rfl

/-! ### The CB rows (45_cb_prefix.md) -/

theorem toNat_field3_lt (b : Field3) : b.toNat < 8 := by cases b <;> decide

theorem cbCycles_reg (k : Nat) (r : Reg8) : cbCycles (BitVec.ofNat 8 (8 * k + (Operand8.reg r).index)) = 8 := by
  have hz : (BitVec.ofNat 8 (8 * k + (Operand8.reg r).index)).toNat % 8 ≠ 6 := by
    rw [BitVec.toNat_ofNat]
    cases r <;> simp only [Operand8.index] <;> omega
  rw [cbCycles, if_pos hz]

theorem cbCycles_atHl (k : Nat) (hk : k < 32) :
    cbCycles (BitVec.ofNat 8 (8 * k + Operand8.atHl.index)) = if 8 ≤ k ∧ k < 16 then 12 else 16 := by
  have hnum : (BitVec.ofNat 8 (8 * k + Operand8.atHl.index)).toNat = 8 * k + 6 := by
    rw [BitVec.toNat_ofNat, Operand8.index]
    omega
  have hgroup : (0x40 ≤ 8 * k + 6 ∧ 8 * k + 6 < 0x80) ↔ 8 ≤ k ∧ k < 16 := by omega
  have hz : ¬ (8 * k + 6) % 8 ≠ 6 := by omega
  rw [cbCycles, hnum, if_neg hz]
  simp only [hgroup]

/-- A CB row at its second byte: an `[HL]` form of group 01 reads its operand, one of another group writes it too. -/
theorem TakesTableCycles.ofCb {i : Instr} {s t : State} {n : Nat} {f : Footprint} (o : Operand8) (k : Nat)
    (ht : exec i s = .next t) (hframe : Within f s t) (hcoded : Coded i [0xCB#8, BitVec.ofNat 8 n] f.cycles (8 + f.cycles))
    (hcycles : (if 8 ≤ k ∧ k < 16 then o.cycles else 2 * o.cycles) = f.cycles) (hn : n = 8 * k + o.index) (hk : k < 32) :
    TakesTableCycles i s := by
  have hentry : tableCycles i s.flags = cbCycles (BitVec.ofNat 8 n) := by
    rw [tableCycles, hcoded.1]
    rfl
  have htotal : 8 + f.cycles = cbCycles (BitVec.ofNat 8 n) := by
    subst hn
    rw [← hcycles]
    cases o with
    | reg r => rw [cbCycles_reg k r, Operand8.cycles, Nat.mul_zero, ite_self]
    | atHl =>
      rw [cbCycles_atHl k hk, Operand8.cycles]
      split <;> rfl
  exact .ofFrame ht hframe (hcoded.2.trans (htotal.trans hentry.symm))

/-! ### The conditional rows -/

theorem tableCycles_jrCc (cc : Cond) (e8 : Byte) (f : Flags) :
    tableCycles (instrJrCc cc e8) f = if condHolds cc f then 12 else 8 := by cases cc <;> rfl

theorem tableCycles_jpCc (cc : Cond) (n16 : Word) (f : Flags) :
    tableCycles (instrJpCc cc n16) f = if condHolds cc f then 16 else 12 := by cases cc <;> rfl

theorem tableCycles_callCc (cc : Cond) (n16 : Word) (f : Flags) :
    tableCycles (instrCallCc cc n16) f = if condHolds cc f then 24 else 12 := by cases cc <;> rfl

theorem tableCycles_retCc (cc : Cond) (f : Flags) :
    tableCycles (instrRetCc cc) f = if condHolds cc f then 20 else 8 := by cases cc <;> rfl

/-- A conditional row, from the statement of its family: taken, it has the cycles of `Coded`; not taken, it is its fetch only. -/
theorem TakesTableCycles.ofCondition {i : Instr} {s : State} {bytes : List Byte} {total fetch : Nat} {f : Footprint} {c : Bool}
    (htable : tableCycles i s.flags = if c then total else fetch)
    (htaken : c = true → ∃ t, exec i s = .next t ∧ Within f s t) (hcoded : Coded i bytes f.cycles total)
    (hnot : c = false → exec i s = .next s ∧ 4 * bytesRead i = fetch) : TakesTableCycles i s := by
  cases c with
  | true =>
    obtain ⟨t, ht, hframe⟩ := htaken rfl
    exact .ofFrame ht hframe (hcoded.2.trans htable.symm)
  | false =>
    obtain ⟨ht, hfetch⟩ := hnot rfl
    exact .ofInstant ht (.instant rfl rfl) (hfetch.trans htable.symm)

theorem takesTableCycles_jrCc (cc : Cond) (e8 : Byte) (s : State) : TakesTableCycles (instrJrCc cc e8) s := by
  obtain ⟨-, -, -, hcoded, htaken, hnot⟩ := relativeJumps cc e8 s
  exact .ofCondition (tableCycles_jrCc cc e8 s.flags)
    (fun h => have ⟨t, ht, _, hframe⟩ := htaken h; ⟨t, ht, hframe⟩) hcoded hnot

theorem takesTableCycles_jpCc (cc : Cond) (n16 : Word) (s : State) : TakesTableCycles (instrJpCc cc n16) s := by
  obtain ⟨-, -, hcoded, htaken, hnot, -⟩ := absoluteJumps cc n16 s
  exact .ofCondition (tableCycles_jpCc cc n16 s.flags)
    (fun h => have ⟨t, ht, _, hframe⟩ := htaken h; ⟨t, ht, hframe⟩) hcoded hnot

theorem takesTableCycles_callCc (cc : Cond) (n16 : Word) (s : State) : TakesTableCycles (instrCallCc cc n16) s := by
  obtain ⟨-, -, hcoded, htaken, hnot, -⟩ := callsAndRestarts cc n16 .f0 s
  exact .ofCondition (tableCycles_callCc cc n16 s.flags)
    (fun h => have ⟨t, ht, _, _, _, _, hframe⟩ := htaken h; ⟨t, ht, hframe⟩) hcoded hnot

/-- `RET cc` spends its condition step in both cases. -/
theorem takesTableCycles_retCc (cc : Cond) (s : State) : TakesTableCycles (instrRetCc cc) s := by
  obtain ⟨-, -, hcoded, htaken, hnot⟩ := returnsFromCalls cc s
  have htable := tableCycles_retCc cc s.flags
  cases hc : condHolds cc s.flags with rw [hc] at htable
  | true =>
    obtain ⟨t, ht, -, -, hframe⟩ := htaken hc
    exact .ofFrame ht hframe (hcoded.2.trans htable.symm)
  | false =>
    obtain ⟨t, ht, hframe, hfetch⟩ := hnot hc
    exact .ofFrame ht hframe (hfetch.trans htable.symm)

/-! ### Every row -/

/-- A row's frame is that of its meaning or the one its own statement gives; the two sides of the count are then closed. -/
theorem takesTableCycles (i : Instr) (hw : WellFormed i = true) (s : State) : TakesTableCycles i s := by
  induction i using Instr.byFamily with
  | ldR16N16Row p n16 => exact .ofFrame (exec_instrLdR16N16 p n16 s) (within_setR16 s p n16) (by cases p <;> rfl)
  | ldAtR16memARow m =>
    obtain ⟨-, -, t, ht, -, -, -, hframe⟩ := storesOfAThroughPairs m s
    exact .ofFrame ht hframe (by cases m <;> rfl)
  | ldAAtR16memRow m =>
    obtain ⟨-, t, ht, -, -, -, hframe⟩ := loadsOfAThroughPairs m s
    exact .ofFrame ht hframe (by cases m <;> rfl)
  | incR16Row p =>
    exact .ofFrame (exec_instrIncR16 p s) (within_setR16 s.internal p _).afterInternal (by cases p <;> rfl)
  | decR16Row p =>
    exact .ofFrame (exec_instrDecR16 p s) (within_setR16 s.internal p _).afterInternal (by cases p <;> rfl)
  | addHlRow p =>
    obtain ⟨-, t, ht, -, -, hframe⟩ := additionToHl p s
    exact .ofFrame ht hframe (by cases p <;> rfl)
  | inc8Row o =>
    exact .ofFrame (exec_instrInc8 o s) (within_modifyOperand8_double s o _) (tableCycles_inc8 o _)
  | dec8Row o =>
    exact .ofFrame (exec_instrDec8 o s) (within_modifyOperand8_double s o _) (tableCycles_dec8 o _)
  | ldN8Row o n8 => exact .ofFrame (exec_instrLdN8 o n8 s) (within_writeOperand8 s o n8) (tableCycles_ldN8 o n8 _)
  | rotARow op =>
    exact .ofFrame (exec_instrRotA op s) (within_modifyOperand8_double s (.reg .a) _) (by cases op <;> rfl)
  | jrCcRow cc e8 => exact takesTableCycles_jrCc cc e8 s
  | ldRRRow dst src => exact .ofFrame (exec_instrLdRR dst src s) (within_setReg8 s dst _) (by cases dst <;> cases src <;> rfl)
  | ldRAtHlRow r =>
    obtain ⟨-, ⟨t, ht, -, hframe⟩, -⟩ := loadsAndStoresThroughHl r s
    exact .ofFrame ht hframe (by cases r <;> rfl)
  | ldAtHlRRow r => exact .ofFrame (exec_instrLdAtHlR r s) (within_memWrite s s.hl _) (by cases r <;> rfl)
  | aluRow op o =>
    exact .ofFrame (exec_instrAlu op o s) (within_runAlu (fun t => within_aluA t op) o s) (tableCycles_alu op o _)
  | aluN8Row op n8 => exact .ofFrame (exec_instrAluN8 op n8 s) (within_aluA s op n8) (by cases op <;> rfl)
  | retCcRow cc => exact takesTableCycles_retCc cc s
  | jpCcRow cc n16 => exact takesTableCycles_jpCc cc n16 s
  | callCcRow cc n16 => exact takesTableCycles_callCc cc n16 s
  | rstRow y =>
    obtain ⟨-, -, -, -, hframe⟩ := runCall_spec (BitVec.ofNat 16 (y.toNat <<< 3)) s
    exact .ofFrame (exec_instrRst y s) hframe (by cases y <;> rfl)
  | popRow p =>
    obtain ⟨-, -, t, ht, -, -, -, hframe⟩ := popsFromTheStack p s
    exact .ofFrame ht hframe (by cases p <;> rfl)
  | pushRow p =>
    exact .ofFrame (exec_instrPush p s) (within_internal_push16 s _) (by cases p <;> rfl)
  | illegalRow k => exact .ofInstant (exec_instrIllegal k s) (.instant rfl rfl) (by cases k <;> rfl)
  | rotRow op o =>
    obtain ⟨hc, t, ht, -, -, -, hframe⟩ := rot_row op o s
    have hk : op.index < 8 := by cases op <;> decide
    exact .ofCb o op.index ht hframe hc (if_neg (by omega)) rfl (by omega)
  | bitRow b o =>
    obtain ⟨hc, t, ht, -, hframe⟩ := bitTests b o s
    have hk := toNat_field3_lt b
    exact .ofCb o (8 + b.toNat) ht hframe hc (if_pos (by omega)) (by omega) (by omega)
  | resRow b o =>
    obtain ⟨hc, ⟨t, -, ht, -, -, hframe⟩, -⟩ := bitResetsAndSets b o s
    have hk := toNat_field3_lt b
    exact .ofCb o (16 + b.toNat) ht hframe hc (if_neg (by omega)) (by omega) (by omega)
  | setRow b o =>
    obtain ⟨-, -, hc, t, -, ht, -, -, hframe⟩ := bitResetsAndSets b o s
    have hk := toNat_field3_lt b
    exact .ofCb o (24 + b.toNat) ht hframe hc (if_neg (by omega)) (by omega) (by omega)
  | nopRow => exact .ofInstant (exec_nop s) (.instant rfl rfl)
  | ldAtN16SpRow n16 =>
    obtain ⟨-, t, ht, -, -, hframe⟩ := storeOfStackPointer n16 s
    exact .ofFrame ht hframe
  | stopRow => exact .ofInstant (exec_stop s) (spends_runStop s)
  | jrE8Row e8 => exact .ofFrame (exec_jrE8 e8 s) (within_runJr e8 s)
  | daaRow => exact .ofFrame (exec_daa s) (within_modifyOperand8_double s (.reg .a) daa8)
  | cplRow => exact .ofInstant (exec_cpl s) (.instant rfl rfl)
  | scfRow => exact .ofInstant (exec_scf s) (.instant rfl rfl)
  | ccfRow => exact .ofInstant (exec_ccf s) (.instant rfl rfl)
  | jpN16Row n16 => exact .ofFrame (exec_jpN16 n16 s) (within_runJp n16 s)
  | retRow => exact .ofFrame (exec_ret s) (within_returnFromCall s)
  | prefixCbRow => cases hw
  | callN16Row n16 =>
    obtain ⟨-, -, -, -, hframe⟩ := runCall_spec n16 s
    exact .ofFrame (exec_callN16 n16 s) hframe
  | retiRow =>
    obtain ⟨-, t, ht, -, -, -, -, hframe, -⟩ := returnFromInterrupt s
    exact .ofFrame ht hframe
  | ldhAtN8ARow n8 => exact .ofFrame (exec_ldhAtN8A n8 s) (within_memWrite s _ s.a)
  | ldhAtCARow => exact .ofFrame (exec_ldhAtCA s) (within_memWrite s _ s.a)
  | addSpE8Row e8 =>
    obtain ⟨-, ⟨t, ht, -, -, hframe⟩, -⟩ := stackPointerArithmetic e8 s
    exact .ofFrame ht hframe
  | jpHlRow => exact .ofInstant (exec_jpHl s) (.instant rfl rfl)
  | ldAtN16ARow n16 => exact .ofFrame (exec_ldAtN16A n16 s) (within_memWrite s n16 s.a)
  | ldhAAtN8Row n8 => exact .ofFrame (exec_ldhAAtN8 n8 s) (within_loadA _ s)
  | ldhAAtCRow => exact .ofFrame (exec_ldhAAtC s) (within_loadA _ s)
  | diRow => exact .ofInstant (exec_di s) (.instant rfl rfl)
  | ldHlSpE8Row e8 =>
    obtain ⟨-, -, -, ⟨t, ht, -, -, hframe⟩, -⟩ := stackPointerArithmetic e8 s
    exact .ofFrame ht hframe
  | ldSpHlRow => exact .ofFrame (exec_ldSpHl s) (within_setSp s.internal _).afterInternal
  | ldAAtN16Row n16 => exact .ofFrame (exec_ldAAtN16 n16 s) (within_loadA n16 s)
  | eiRow => exact .ofInstant (exec_ei s) (.instant rfl rfl)
  | haltRow => exact .ofInstant (exec_halt s) (spends_runHalt s)

/-- Settles O54: the step is the meaning of the decoded instruction after its fetch; together they take the table's cycles, at the
speed and for the flags the fetch starts with. -/
theorem cycleTable : Obligations.CycleTable := by
  intro s op op2 op3 hs hr hbytes s1
  obtain ⟨i, rest, hd, hw, -⟩ := decode_of_three_bytes op op2 op3 []
  obtain ⟨t, n, ht, hspends, htotal⟩ := takesTableCycles i hw (s1.afterFetch (bytesRead i))
  have hstep := stepRunsDecodedInstruction s i rest hs hr (by rw [hbytes, hd])
  rw [State.afterFetch_flags, ← cycleCount_of_decode hd] at htotal
  have hmod : n % 4 = 0 := by
    have := cycleCount_mod op op2 s1.flags
    omega
  have hall := (spends_afterFetch s1 (bytesRead i)).trans hspends (s1.afterFetch_doubleSpeed _) (Nat.mul_mod_right 4 _) hmod
  rw [htotal] at hall
  exact ⟨t, hstep.trans ht, hall.elapsed, hall.timestamp⟩

end Sys2Proof.Machine
